-- ==== Sys2Proof/Word.lean ====
section
/-! DEFINITION. Words, bytes, the numbers that name the hub's parts, and the two containers every
record table is held in: one value for each port or domain, and a fixed number of numbered rows. -/

namespace Sys2Proof

/-- A 32-bit register of a port window, or a 32-bit byte address (00_scope.md 1.5). -/
abbrev Word := BitVec 32

abbrev Byte := BitVec 8

/-- The two ports. Domain A belongs to Port A and Domain B to Port B (00_scope.md 1.1). -/
inductive Port where
  | a
  | b
  deriving DecidableEq, Repr

/-- A domain is named by the letter of its own port. -/
abbrev Domain := Port

/-- The other port of a port; the port that does not own a domain. -/
def Port.peer : Port → Port
  | .a => .b
  | .b => .a

abbrev ChannelNo := Fin 64
abbrev LineNo := Fin 16
abbrev EngineNo := Fin 4
abbrev StagingLine := Fin 128
abbrev ApertureNo := Fin 8

/-- One value for each port, or for each domain. -/
structure PerPort (α : Type) where
  a : α
  b : α
  deriving DecidableEq, Repr

namespace PerPort

def get {α : Type} (v : PerPort α) : Port → α
  | .a => v.a
  | .b => v.b

def set {α : Type} (v : PerPort α) (p : Port) (x : α) : PerPort α :=
  match p with
  | .a => { v with a := x }
  | .b => { v with b := x }

def both {α : Type} (x : α) : PerPort α := ⟨x, x⟩

end PerPort

/-- A table of `n` numbered rows. -/
abbrev Table (α : Type) (n : Nat) := Vector α n

namespace Table

def row {α : Type} {n : Nat} (t : Table α n) (i : Fin n) : α := Vector.get t i

def put {α : Type} {n : Nat} (t : Table α n) (i : Fin n) (x : α) : Table α n :=
  Vector.set t i.val x i.isLt

def fill {α : Type} (n : Nat) (x : α) : Table α n := Vector.replicate n x

def tabulate {α : Type} {n : Nat} (f : Fin n → α) : Table α n := Vector.ofFn f

end Table

end Sys2Proof
end

