-- ==== Sys2Proof/Syntax.lean ====
section
/-! DEFINITION. The commands of the hub: one constructor for each row of spec/opcode_table.json.

Every row is one happening at the block that owns the state concerned (00_scope.md 1.5). Its
operands say where it is taken and, for what comes from outside, the value that comes. The
arguments of a host command are the latched ARG0–ARG7 that R160 hands to its owner, so the
constructor of a host command names the port alone (log entry 5). -/

namespace Sys2Proof

/-- What a domain bus returns for a transaction (R108): OKAY with the bytes it carries, or ERROR. -/
inductive BusReply where
  | okay (data : List Byte)
  | error
  deriving DecidableEq, Repr

/-- The two kinds of happening in which the Port Command Unit takes part in READ_ENGINES (R74):
it asks the five blocks for their parts, and it takes a part that has come back. -/
inductive GatherStep where
  | ask
  | part (position : Nat)
  deriving DecidableEq, Repr

/-- The five blocks that send a part of READ_ENGINES (R74). -/
inductive PartSource where
  | engine (e : EngineNo)
  | pool
  deriving DecidableEq, Repr

/-- The four completion fields of a teardown (Table 9-2). -/
inductive TeardownField where
  | channels
  | apertures
  | lines
  | notices
  deriving DecidableEq, Repr

/-- The commands of the hub, in the order of the table. A `position` counts from the oldest
hand-off of its kind that is under way. -/
inductive Instr where
  | announce (p : Port)
  | detach (p : Port)
  | claim (p : Port)
  | release (p : Port)
  | load (p : Port)
  | readChannel (p : Port)
  | queryTable (p : Port)
  | readEngines (p : Port) (g : GatherStep)
  | readEnginesPart (p : Port) (src : PartSource)
  | start (p : Port)
  | abort (p : Port)
  | resume (p : Port)
  | mapLine (p : Port)
  | unmapLine (p : Port)
  | openAperture (p : Port)
  | revokeAperture (p : Port)
  | queryAperture (p : Port)
  | setResponseLimit (p : Port)
  | clearBus (p : Port)
  | popNotice (p : Port)
  | unknownCommandCode (p : Port)
  | commandAnswer (p : Port) (position : Nat)
  | cmdWriteDropped (p : Port) (code : Word)
  | pstatWrite (p : Port) (value : Word)
  | intenWrite (p : Port) (value : Word)
  | registerWrite (p : Port) (offset : BitVec 6) (value : Word)
  | reqAsserted (l : LineNo)
  | reqDeasserted (l : LineNo)
  | lineChannelAble (l : LineNo)
  | lineAcknowledge (l : LineNo)
  | lineReturn (l : LineNo)
  | dispatch
  | roomRequest (e : EngineNo)
  | confirmedBytes (e : EngineNo)
  | lineRelease (e : EngineNo)
  | takeOffer (d : Domain)
  | admissionRequest (d : Domain)
  | admissionAnswer (d : Domain)
  | admissionRefusal (d : Domain) (e : EngineNo)
  | busResponse (d : Domain) (r : BusReply)
  | responseLimitExpiry (d : Domain) (position : Nat)
  | readResponseOkay (d : Domain) (e : EngineNo)
  | writeResponseOkay (d : Domain) (e : EngineNo)
  | responseError (d : Domain) (e : EngineNo)
  | transactionFailure (d : Domain) (e : EngineNo)
  | stopCauseAbort (ch : ChannelNo)
  | stopCauseTeardown (ch : ChannelNo)
  | faultMessage (ch : ChannelNo)
  | unitEndReport (ch : ChannelNo)
  | stopReport (ch : ChannelNo)
  | linkDelivery (position : Nat)
  | systemNoticePosting (p : Port) (position : Nat)
  | userEnd (d : Domain)
  | channelTableTeardown (p : Port)
  | triggerUnitTeardown (p : Port)
  | apertureUnitTeardown (p : Port)
  | noticeUnitClear (p : Port)
  | busAbandon (d : Domain)
  | teardownReport (p : Port) (field : TeardownField)
  | prstxAsserted (p : Port)
  | prstxReleased (p : Port)
  | powerOnReset
  | commandLatch (p : Port) (code : Word)
  | linePendingDrop (l : LineNo)
  | runQueueJoin (ch : ChannelNo)
  | offerReturned (d : Domain) (e : EngineNo)
  deriving DecidableEq, Repr

end Sys2Proof
end

