-- ==== Sys2Proof/Decode.lean ====
section
/-! DEFINITION. spec/opcode_table.json gives no row any bits (every row's `fields` is empty and
none has `fixed`), so no word spells a command: commands come from the window, the pins, the buses
and the blocks themselves. -/

namespace Sys2Proof

/-- The command that a word spells by the table's bits: none, for the table gives none. -/
def decodeTableWord (_nbits _w : Nat) : Option Instr := none

end Sys2Proof
end

