-- ==== Sys2Proof/Config.lean ====
section
/-! DEFINITION. What the part fixes once for all (00_scope.md Table 0-6), and the one value the
spec leaves undefined. -/

namespace Sys2Proof.Config

/-- Records a Notice Queue holds (R137). -/
def queueSize : Nat := 32

/-- A channel notice enters only a queue that holds fewer records than this (R137). -/
def channelRoom : Nat := 28

/-- Greatest repeat count of a deferred notice (R139). -/
def repeatMax : Nat := 255

/-- Greatest credit of a channel (R28). -/
def creditMax : Nat := 15

/-- Skip counters stop here, and a class at this count is served next (R33, R34). -/
def skipMax : Nat := 8

/-- Places on a bus list (R107). -/
def busPlaces : Nat := 16

/-- Response limit after power-on reset, in microseconds (R107). -/
def resetResponseLimit : Nat := 1000

/-- Greatest response limit (R112). -/
def responseLimitMax : Nat := 65535

/-- A FAIR engine takes a shared line only while this many are free, the line taken included (R79). -/
def fairFree : Nat := 60

/-- Greatest element count of a program (R7, check 7). -/
def countMax : Nat := 16777215

/-- Greatest block length (R7, check 6). -/
def blockMax : Nat := 255

/-- Bytes of an aperture page (R89). -/
def pageBytes : Nat := 4096

/-- Greatest aperture size in pages (R91, check 2). -/
def pagesMax : Nat := 262144

/-- Part identity and revision that ANNOUNCE answers (R149). -/
def partIdentity : Nat := 0x5A64
def partRevision : Nat := 0x02

/-- FREE VALUE: the `n`-th byte of read data that R117 calls not defined (an OKAY response that
does not carry the bytes of the READ entry it is matched to). It has no body, so nothing can be
proved of its value. Log entry 7. DESIGN CHOICE (form), safe. -/
opaque freeByte : Nat → Byte

end Sys2Proof.Config
end

