-- ==== Sys2Proof/Machine/State.lean ====
section
/-! DEFINITION. The state of the hub, block by block, as plain data, and its value after power-on
reset. Presence of a field under a condition is said by the type where the spec's condition is one
of the record itself (Option, or a constructor that carries the field). -/

namespace Sys2Proof.Machine

/-! ### Programs and channel records (Chapter 1) -/

/-- Table 1-2. -/
inductive ChannelState where
  | free
  | idle
  | ready
  | running
  | stopping
  | posting
  | faulted
  deriving DecidableEq, Repr

/-- Step rule of an endpoint (Table 1-1). -/
inductive Stepping where
  | increment
  | decrement
  | fixed
  | incrementRewind
  deriving DecidableEq, Repr

/-- Mode; block length is present exactly when the mode is BLOCK (R1). -/
inductive Mode where
  | single
  | run
  | block (length : Nat)
  deriving DecidableEq, Repr

/-- Element size: 1, 2, 4 or 8 bytes (Table 1-1). -/
inductive ElementSize where
  | one
  | two
  | four
  | eight
  deriving DecidableEq, Repr

def ElementSize.bytes : ElementSize → Nat
  | .one => 1
  | .two => 2
  | .four => 4
  | .eight => 8

inductive LinkCondition where
  | eachUnit
  | atEnd
  deriving DecidableEq, Repr

structure Link where
  target : ChannelNo
  condition : LinkCondition
  deriving DecidableEq, Repr

inductive NoticePolicy where
  | eachUnit
  | atEnd
  | silent
  deriving DecidableEq, Repr

/-- Scheduling class; each has a run queue (R30). -/
inductive SchedClass where
  | urgent
  | normal
  | bulk
  deriving DecidableEq, Repr

/-- Read-ahead setting (Table 4-2). -/
inductive ReadAhead where
  | depth2
  | depth4
  | depth8
  | depth16
  | depth32
  | fair
  deriving DecidableEq, Repr

structure Endpoint where
  domain : Domain
  start : Word
  step : Stepping
  deriving DecidableEq, Repr

/-- The program fields LOAD writes (Table 1-1). -/
structure Program where
  mode : Mode
  size : ElementSize
  src : Endpoint
  dst : Endpoint
  count : Nat
  link : Option Link
  policy : NoticePolicy
  cls : SchedClass
  readAhead : ReadAhead
  deriving DecidableEq, Repr

/-- A program with its progress: both are present from the first LOAD on (R1). -/
structure Loaded where
  program : Program
  curSrc : Word
  curDst : Word
  remaining : Nat
  deriving DecidableEq, Repr

inductive FaultKind where
  | accessDenied
  | apertureRevoked
  | readError
  | writeError
  | timeout
  | domainReset
  deriving DecidableEq, Repr

/-- The five parts of a fault record (R67). -/
structure FaultRecord where
  kind : FaultKind
  domain : Domain
  address : Word
  index : Nat
  collateral : Bool
  deriving DecidableEq, Repr

inductive Origin where
  | line
  | credit
  deriving DecidableEq, Repr

inductive AfterState where
  | ready
  | idle
  | faulted
  deriving DecidableEq, Repr

/-- A channel record (Table 1-1). `servedLine` is the line that the acknowledgement or return at
the end of the running unit names; the record keeps it when the line is unmapped meanwhile (R42 and
section 2.8). DEDUCED, log entry 17, safe. -/
structure Channel where
  owner : Option Port
  state : ChannelState
  loaded : Option Loaded
  credit : Nat
  mappedLine : Option LineNo
  linePending : Bool
  fault : Option FaultRecord
  afterState : Option AfterState
  origin : Option Origin
  servedLine : Option LineNo
  deriving DecidableEq, Repr

/-- The record of a FREE channel (R1). -/
def Channel.free : Channel where
  owner := none
  state := .free
  loaded := none
  credit := 0
  mappedLine := none
  linePending := false
  fault := none
  afterState := none
  origin := none
  servedLine := none

/-! ### Trigger Unit (Chapter 2) -/

/-- Three run queues and two skip counters (R30, R33). -/
structure TriggerUnit where
  urgent : List ChannelNo
  normal : List ChannelNo
  bulk : List ChannelNo
  normalSkip : Nat
  bulkSkip : Nat
  deriving DecidableEq, Repr

/-- Table 2-3. -/
inductive LineState where
  | unmapped
  | waiting
  | pending
  | serving
  | acking
  deriving DecidableEq, Repr

structure Mapping where
  channel : ChannelNo
  port : Port
  deriving DecidableEq, Repr

/-- A line record (Table 2-2). `acks` counts the assertions of ACKn, so that the single pulse of
R42 leaves a trace; it is the model's own. DESIGN CHOICE, log entry 19, safe. -/
structure Line where
  state : LineState
  mapping : Option Mapping
  acks : Nat
  deriving DecidableEq, Repr

/-! ### Transfer Engines (Chapter 3) -/

inductive Direction where
  | read
  | write
  deriving DecidableEq, Repr

/-- One transaction of a unit (section 3.3): its number in its series, the address and length, and
the elements it covers. -/
structure Txn where
  dir : Direction
  index : Nat
  address : Word
  length : Nat
  first : Nat
  elems : Nat
  deriving DecidableEq, Repr

/-- One side of the channel copy (Table 3-1). -/
structure Side where
  domain : Domain
  step : Stepping
  start : Word
  deriving DecidableEq, Repr

/-- Channel copy and working progress of an engine that serves a channel (Table 3-1).
`readBytes` is the number of leading unit bytes read OKAY: reads are answered in element order
(R59), so the bytes read are always a prefix. DEDUCED, log entry 11, safe. -/
structure Work where
  channel : ChannelNo
  owner : Port
  size : ElementSize
  src : Side
  dst : Side
  readAhead : ReadAhead
  origin : Origin
  elements : Nat
  readPos : Nat
  writePos : Nat
  confirmed : Nat
  readBytes : Nat
  room : Bool
  deriving DecidableEq, Repr

/-- Stop cause of an engine; a fault carries its record (Table 3-1). -/
inductive StopCause where
  | abort
  | fault (r : FaultRecord)
  | teardown
  deriving DecidableEq, Repr

/-- Engine state (Table 3-2) with the fields present in it. -/
inductive Phase where
  | idle
  | running (w : Work)
  | stopping (w : Work) (c : StopCause)
  deriving DecidableEq, Repr

structure Outstanding where
  domain : Domain
  txn : Txn
  deriving DecidableEq, Repr

structure Engine where
  phase : Phase
  outstanding : List Outstanding
  offers : PerPort (Option Txn)
  admission : PerPort (Option Txn)
  deriving DecidableEq, Repr

def Engine.idle : Engine where
  phase := .idle
  outstanding := []
  offers := .both none
  admission := .both none

/-! ### Staging Pool (Chapter 4) -/

inductive PoolRequest where
  | none
  | atLimit
  | listed
  deriving DecidableEq, Repr

/-- A line an engine holds, and the unit line it holds (R77). -/
structure HeldLine where
  unitLine : Nat
  line : StagingLine
  deriving DecidableEq, Repr

structure LineLimit where
  lines : Nat
  fair : Bool
  deriving DecidableEq, Repr

/-- What the pool records for one engine (R75). -/
structure PoolEngine where
  held : List HeldLine
  limit : Option LineLimit
  request : PoolRequest
  deriving DecidableEq, Repr

def PoolEngine.idle : PoolEngine := ⟨[], .none, .none⟩

structure Pool where
  engines : Table PoolEngine 4
  free : List StagingLine
  waiting : List EngineNo
  data : Table (Table Byte 32) 128
  deriving DecidableEq, Repr

/-! ### Aperture Units (Chapter 5) -/

inductive ApertureState where
  | closed
  | open
  | draining
  deriving DecidableEq, Repr

inductive Rights where
  | read
  | write
  | readWrite
  deriving DecidableEq, Repr

inductive Grantees where
  | self
  | peer
  | both
  deriving DecidableEq, Repr

/-- The four fields OPEN_APERTURE writes together (R88). -/
structure Grant where
  base : Word
  pages : Nat
  rights : Rights
  grantees : Grantees
  deriving DecidableEq, Repr

structure Aperture where
  state : ApertureState
  grant : Option Grant
  users : Nat
  generation : BitVec 8
  deriving DecidableEq, Repr

/-- The Aperture Unit of a domain. `clearing` is set from the start of a teardown of the domain's
port until the unit reports that every record is CLOSED (R104). DEDUCED, log entry 26, safe. -/
structure ApertureUnit where
  records : Table Aperture 8
  clearing : Bool
  deriving DecidableEq, Repr

/-! ### Domain Bus Masters (Chapter 6) -/

inductive MasterState where
  | open
  | recovering
  deriving DecidableEq, Repr

inductive EntryStatus where
  | outstanding
  | stale
  deriving DecidableEq, Repr

/-- A bus list entry (Table 6-2). `bytes` are the bytes a WRITE put on the bus (R110): the hub's
output, kept so that it can be seen. DESIGN CHOICE, log entry 25, safe. -/
structure BusEntry where
  status : EntryStatus
  engine : EngineNo
  txn : Txn
  aperture : ApertureNo
  deadline : Option Nat
  bytes : List Byte
  deriving DecidableEq, Repr

/-- An admission in progress: the taken offer, its engine, the channel owner sent with the request,
and the reset mark of R118. -/
structure Admission where
  engine : EngineNo
  txn : Txn
  owner : Port
  marked : Bool
  deriving DecidableEq, Repr

structure BusMaster where
  state : MasterState
  list : List BusEntry
  stale : Nat
  limit : Nat
  lastServed : EngineNo
  admission : Option Admission
  deriving DecidableEq, Repr

def BusMaster.reset : BusMaster where
  state := .open
  list := []
  stale := 0
  limit := Config.resetResponseLimit
  lastServed := 3
  admission := none

/-! ### Notice Units (Chapter 8) -/

/-- Channel notices (Table 8-1). -/
inductive ChannelNotice where
  | unitDone (ch : ChannelNo) (remaining done : Nat) (origin : Origin)
  | channelDone (ch : ChannelNo) (remaining done : Nat) (origin : Origin) (unusedCredit : Nat)
  | aborted (ch : ChannelNo) (remaining done : Nat) (origin : Origin)
  | fault (ch : ChannelNo) (r : FaultRecord)
  deriving DecidableEq, Repr

inductive RefusalReason where
  | notOwner
  | wrongState
  | creditFull
  deriving DecidableEq, Repr

/-- System notices (Table 8-1). -/
inductive SystemNotice where
  | linkRefused (source target : ChannelNo) (reason : RefusalReason)
  | apertureOffered (d : Domain) (i : ApertureNo) (generation : BitVec 8) (base : Word)
      (pages : Nat) (rights : Rights)
  | apertureWithdrawn (d : Domain) (i : ApertureNo) (generation : BitVec 8)
  | revokeDone (d : Domain) (i : ApertureNo) (generation : BitVec 8)
  | peerLost
  | peerReady
  deriving DecidableEq, Repr

inductive Notice where
  | channel (n : ChannelNotice)
  | system (n : SystemNotice)
  deriving DecidableEq, Repr

/-- A record of the Notice Queue (R135). -/
structure NoticeRecord where
  notice : Notice
  sequence : BitVec 16
  repeats : Nat
  deriving DecidableEq, Repr

structure Parked where
  channel : ChannelNo
  notice : ChannelNotice
  deriving DecidableEq, Repr

structure Deferred where
  notice : SystemNotice
  repeats : Nat
  deriving DecidableEq, Repr

structure NoticeUnit where
  queue : List NoticeRecord
  parking : List Parked
  deferred : List Deferred
  sequence : BitVec 16
  enable : Bool
  deriving DecidableEq, Repr

def NoticeUnit.reset : NoticeUnit := ⟨[], [], [], 0, false⟩

/-! ### Port Command Units (Chapters 9 and 10) -/

inductive TeardownCause where
  | detach
  | reset
  deriving DecidableEq, Repr

/-- The fields of Table 9-2 present in CLEARING. -/
structure Teardown where
  cause : TeardownCause
  channels : Bool
  apertures : Bool
  lines : Bool
  notices : Bool
  deriving DecidableEq, Repr

inductive Session where
  | offline
  | online
  | clearing (t : Teardown)
  deriving DecidableEq, Repr

/-- Table 10-2. -/
inductive ResultCode where
  | ok
  | accepted
  | notOnline
  | portClearing
  | unknownCommand
  | badChannel
  | notOwner
  | owned
  | wrongState
  | badField
  | creditFull
  | lineTaken
  | badLine
  | badAperture
  | inUse
  | queueEmpty
  deriving DecidableEq, Repr

/-- A latched command: code, arguments, and the number of its command cycle (R160, R161; the number
is the model's way to name a cycle, log entry 23). -/
structure Latched where
  cycle : Nat
  code : Word
  args : Table Word 8
  deriving DecidableEq, Repr

structure Reply where
  code : ResultCode
  res : Table Word 4
  deriving DecidableEq, Repr

/-- An answer on its way to the Port Command Unit; it names its cycle (R161). -/
structure Answer where
  cycle : Nat
  reply : Reply
  deriving DecidableEq, Repr

/-- How an engine's part of READ_ENGINES shows the channel served (R74). -/
inductive ServedView where
  | absent
  | own (ch : ChannelNo)
  | other
  deriving DecidableEq, Repr

inductive EngineState where
  | idle
  | running
  | stopping
  deriving DecidableEq, Repr

structure EngineView where
  state : EngineState
  served : ServedView
  linesHeld : Nat
  deriving DecidableEq, Repr

/-- A part of READ_ENGINES (R74). -/
inductive PartBody where
  | engine (e : EngineNo) (v : EngineView)
  | pool (freeShared : Nat)
  deriving DecidableEq, Repr

structure EnginesPart where
  cycle : Nat
  body : PartBody
  deriving DecidableEq, Repr

/-- A request for a part of READ_ENGINES (R74). -/
structure EnginesAsk where
  cycle : Nat
  source : PartSource
  deriving DecidableEq, Repr

/-- The parts of READ_ENGINES gathered so far (R74). -/
structure Gather where
  cycle : Nat
  engines : Table (Option EngineView) 4
  pool : Option Nat
  deriving DecidableEq, Repr

/-- The command state is BUSY exactly while `latched` is present (R160, R161). -/
structure PortUnit where
  session : Session
  cmd : Word
  args : Table Word 8
  res : Table Word 4
  result : ResultCode
  dropped : Bool
  latched : Option Latched
  nextCycle : Nat
  gather : Option Gather
  deriving DecidableEq, Repr

def PortUnit.reset : PortUnit where
  session := .offline
  cmd := 0
  args := .fill 8 0
  res := .fill 4 0
  result := .ok
  dropped := false
  latched := none
  nextCycle := 0
  gather := none

/-! ### Hand-offs under way between blocks

Each is what a rule says one block hands another, not yet taken (log entry 2). -/

/-- An acknowledgement or a return: it names the line and the channel (R42, R44). -/
structure LineWord where
  line : LineNo
  channel : ChannelNo
  deriving DecidableEq, Repr

/-- The two stop causes the Channel Table sends (R50). -/
inductive SentCause where
  | abort
  | teardown
  deriving DecidableEq, Repr

structure CauseWord where
  channel : ChannelNo
  cause : SentCause
  deriving DecidableEq, Repr

/-- A unit-end report or stop report: addresses, elements done (R61, R72). -/
structure Progress where
  src : Word
  dst : Word
  done : Nat
  deriving DecidableEq, Repr

inductive ReportBody where
  | faulted
  | unitEnd (r : Progress) (origin : Origin)
  | stop (r : Progress) (c : StopCause)
  deriving DecidableEq, Repr

/-- A hand-off from an engine to the Channel Table (R50). -/
structure EngineReport where
  channel : ChannelNo
  body : ReportBody
  deriving DecidableEq, Repr

/-- A link delivery carries source channel and source owner (R18); the target is where it goes. -/
structure LinkWord where
  source : ChannelNo
  owner : Port
  target : ChannelNo
  deriving DecidableEq, Repr

/-- What a Bus Master sends its Aperture Unit, in order (R100). -/
inductive ApertureWord where
  | request (dir : Direction) (address : Word) (length : Nat) (owner : Port)
  | userEnd (i : ApertureNo)
  deriving DecidableEq, Repr

/-- The two kinds of refusal (R98). -/
inductive AdmissionKind where
  | denied
  | revoked
  deriving DecidableEq, Repr

inductive AdmissionReply where
  | admitted (i : ApertureNo)
  | refused (k : AdmissionKind)
  deriving DecidableEq, Repr

/-- Kinds of a Bus Master's failure (R65). -/
inductive FailureKind where
  | timeoutOwn (expired : Txn)
  | timeoutCollateral
  | domainReset
  deriving DecidableEq, Repr

inductive EngineWordBody where
  | okay (t : Txn) (data : List Byte)
  | error (t : Txn)
  | failure (k : FailureKind) (txns : List Txn)
  deriving DecidableEq, Repr

/-- A response or failure on its way from a Bus Master to an engine (R108, R113, R118). -/
structure EngineWord where
  engine : EngineNo
  body : EngineWordBody
  deriving DecidableEq, Repr

/-- An offer on its way back to its engine (R110). -/
inductive OfferWord where
  | refused (k : AdmissionKind)
  | returned
  deriving DecidableEq, Repr

/-- Teardown directions not yet taken (R154, R157). -/
structure Directions where
  channelTable : Bool
  triggerUnit : Bool
  apertureUnit : Bool
  noticeUnit : Bool
  abandon : Nat
  deriving DecidableEq, Repr

def Directions.none : Directions := ⟨false, false, false, false, 0⟩

structure Wires where
  handed : PerPort (List Latched)
  answers : PerPort (List Answer)
  asks : PerPort (List EnginesAsk)
  parts : PerPort (List EnginesPart)
  acks : List LineWord
  returns : List LineWord
  causes : List CauseWord
  reports : List EngineReport
  links : List LinkWord
  postings : PerPort (List SystemNotice)
  aperture : PerPort (List ApertureWord)
  admissions : PerPort (Option AdmissionReply)
  engineWords : PerPort (List EngineWord)
  offersBack : PerPort (Table (Option OfferWord) 4)
  directions : PerPort Directions
  fields : PerPort (List TeardownField)
  deriving DecidableEq, Repr

def Wires.empty : Wires where
  handed := .both []
  answers := .both []
  asks := .both []
  parts := .both []
  acks := []
  returns := []
  causes := []
  reports := []
  links := []
  postings := .both []
  aperture := .both []
  admissions := .both none
  engineWords := .both []
  offersBack := .both (.fill 4 none)
  directions := .both .none
  fields := .both []

/-! ### The hub -/

/-- The whole state. `tableClearing x` is set from the Channel Table's taking of a teardown of x
until its report that x owns no channel (R27). `req` and `prst` are the levels of the inputs,
`clock` the reference clock in microseconds, `freeCount` the position of the next free value and
`pending` the schedule of happenings, oldest first (log entries 1, 3, 7, 10, 26). -/
structure State where
  channels : Table Channel 64
  tableClearing : PerPort Bool
  trigger : TriggerUnit
  lines : Table Line 16
  engines : Table Engine 4
  pool : Pool
  apertures : PerPort ApertureUnit
  masters : PerPort BusMaster
  notices : PerPort NoticeUnit
  ports : PerPort PortUnit
  wires : Wires
  req : Table Bool 16
  prst : PerPort Bool
  clock : Nat
  freeCount : Nat
  pending : List Instr
  deriving DecidableEq, Repr

/-- The hub raises no fault that stops it: what the spec calls a fault is a record in a channel and
a FAULT notice (R63–R67, R120), so no constructor is needed and no meaning can answer one. Safe. -/
inductive Fault where
  deriving DecidableEq, Repr

inductive Refusal where
  /-- Raised by an arm of exec for a row that has no meaning yet; no row is left so. Safe. -/
  | notModelled (mnemonic : String)
  deriving DecidableEq, Repr

def Pool.reset : Pool where
  engines := .fill 4 .idle
  free := (List.finRange 128).drop 8
  waiting := []
  data := .fill 128 (.fill 32 0)

def ApertureUnit.reset : ApertureUnit where
  records := .fill 8 ⟨.closed, none, 0, 0⟩
  clearing := false

/-- The hub after power-on reset: R2, R30, R34, R38, R49, R75, R88, R107, R136, R148, R159. -/
def State.reset : State where
  channels := .fill 64 .free
  tableClearing := .both false
  trigger := ⟨[], [], [], 0, 0⟩
  lines := .fill 16 ⟨.unmapped, none, 0⟩
  engines := .fill 4 .idle
  pool := .reset
  apertures := .both .reset
  masters := .both .reset
  notices := .both .reset
  ports := .both .reset
  wires := .empty
  req := .fill 16 false
  prst := .both false
  clock := 0
  freeCount := 0
  pending := []

end Sys2Proof.Machine
end

