-- ==== Sys2Proof/Machine/Operands.lean ====
section
/-! DEFINITION. What a command reads from its latched arguments (R163, sections 10.3 and 10.4), the
sixteen checks of LOAD (R7–R9), and how a unit divides into elements, transactions and staging
places (R51–R53, R62, R77). -/

namespace Sys2Proof.Machine

/-! ### Command codes (Table 10-3) -/

inductive Command where
  | announce
  | detach
  | claim
  | release
  | load
  | readChannel
  | queryTable
  | readEngines
  | start
  | abort
  | resume
  | mapLine
  | unmapLine
  | openAperture
  | revokeAperture
  | queryAperture
  | setResponseLimit
  | clearBus
  | popNotice
  deriving DecidableEq, Repr

/-- Table 10-3. The code is the whole 32-bit value of CMD (R163). DEDUCED, log entry 20, safe. -/
def commandOf (code : Word) : Option Command :=
  match code.toNat with
  | 0x01 => some .announce
  | 0x02 => some .detach
  | 0x10 => some .claim
  | 0x11 => some .release
  | 0x12 => some .load
  | 0x13 => some .readChannel
  | 0x14 => some .queryTable
  | 0x15 => some .readEngines
  | 0x20 => some .start
  | 0x21 => some .abort
  | 0x22 => some .resume
  | 0x28 => some .mapLine
  | 0x29 => some .unmapLine
  | 0x30 => some .openAperture
  | 0x31 => some .revokeAperture
  | 0x32 => some .queryAperture
  | 0x38 => some .setResponseLimit
  | 0x39 => some .clearBus
  | 0x40 => some .popNotice
  | _ => none

/-! ### Arguments (R163) -/

/-- The unsigned value of bits `lo + n - 1 : lo` of a register. -/
def bits (w : Word) (lo n : Nat) : Nat := (w.extractLsb' lo n).toNat

/-- A number that a command takes whole is the whole register (R163): 256 is no channel. -/
def channelArg (w : Word) : Option ChannelNo :=
  if h : w.toNat < 64 then some ⟨w.toNat, h⟩ else none

def lineArg (w : Word) : Option LineNo :=
  if h : w.toNat < 16 then some ⟨w.toNat, h⟩ else none

def apertureArg (w : Word) : Option ApertureNo :=
  if h : w.toNat < 8 then some ⟨w.toNat, h⟩ else none

/-- A domain argument is 0 for A and 1 for B (section 10.3). -/
def domainArg (w : Word) : Option Domain :=
  match w.toNat with
  | 0 => some .a
  | 1 => some .b
  | _ => none

def rightsArg (w : Word) : Option Rights :=
  match w.toNat with
  | 1 => some .read
  | 2 => some .write
  | 3 => some .readWrite
  | _ => none

def granteesArg (w : Word) : Option Grantees :=
  match w.toNat with
  | 1 => some .self
  | 2 => some .peer
  | 3 => some .both
  | _ => none

/-- Whether the owner of a latched command is the Port Command Unit itself (R160, R163): ANNOUNCE,
DETACH, READ_ENGINES, an unlisted code, or an aperture command that names neither domain. -/
def unitOwned (l : Latched) : Bool :=
  match commandOf l.code with
  | none => true
  | some .announce => true
  | some .detach => true
  | some .readEngines => true
  | some .openAperture => (domainArg (l.args.row 0)).isNone
  | some .revokeAperture => (domainArg (l.args.row 0)).isNone
  | some .queryAperture => (domainArg (l.args.row 0)).isNone
  | some _ => false

/-! ### Byte ranges (R8, R9) -/

/-- Lowest and highest byte of an endpoint over a program, computed without wrapping (R8). -/
structure ByteRange where
  lo : Int
  hi : Int
  deriving DecidableEq, Repr

/-- Elements of one block span: the smaller of block length and count in BLOCK mode (R8). -/
def blockSpan (m : Mode) (n : Nat) : Nat :=
  match m with
  | .block length => min length n
  | _ => n

/-- The table of R8: `n` elements of `s` bytes, `b` elements in a block span. -/
def byteRange (step : Stepping) (start : Word) (n s b : Nat) : ByteRange :=
  let a : Int := start.toNat
  match step with
  | .increment => ⟨a, a + n * s - 1⟩
  | .decrement => ⟨a - (n - 1 : Int) * s, a + s - 1⟩
  | .fixed => ⟨a, a + s - 1⟩
  | .incrementRewind => ⟨a, a + b * s - 1⟩

/-- The range fits between 0000 0000h and FFFF FFFFh (R8). -/
def ByteRange.fits (r : ByteRange) : Bool := 0 ≤ r.lo && r.hi ≤ 4294967295

/-- Two ranges share a byte (R9). -/
def ByteRange.meets (r q : ByteRange) : Bool := r.lo ≤ q.hi && q.lo ≤ r.hi

/-- Check 16 (R9). -/
def overlaps (src dst : Endpoint) (rs rd : ByteRange) : Bool :=
  src.domain == dst.domain && src.step != .fixed && dst.step != .fixed && rs.meets rd

/-- Checks 10, 11 and 16 for a program run from given addresses and count, as LOAD makes them from
the start (R8, R9) and RESUME from the current progress (R132): the number of the first that
fails. -/
def rangeCheck (p : Program) (src dst : Word) (n : Nat) : Option Nat :=
  let s := p.size.bytes
  let b := blockSpan p.mode n
  let rs := byteRange p.src.step src n s b
  let rd := byteRange p.dst.step dst n s b
  if !rs.fits then some 10
  else if !rd.fits then some 11
  else if overlaps p.src p.dst rs rd then some 16
  else none

/-! ### The LOAD argument block (Table 10-5) -/

def sizeCode : Nat → Option ElementSize
  | 0 => some .one
  | 1 => some .two
  | 2 => some .four
  | 3 => some .eight
  | _ => none

def stepCode : Nat → Option Stepping
  | 0 => some .increment
  | 1 => some .decrement
  | 2 => some .fixed
  | 3 => some .incrementRewind
  | _ => none

def classCode : Nat → Option SchedClass
  | 0 => some .urgent
  | 1 => some .normal
  | 2 => some .bulk
  | _ => none

def readAheadCode : Nat → Option ReadAhead
  | 0 => some .depth2
  | 1 => some .depth4
  | 2 => some .depth8
  | 3 => some .depth16
  | 4 => some .depth32
  | 5 => some .fair
  | _ => none

def policyCode : Nat → Option NoticePolicy
  | 0 => some .eachUnit
  | 1 => some .atEnd
  | 2 => some .silent
  | _ => none

/-- A domain field of one bit: 0 A, 1 B. -/
def domainBit (n : Nat) : Domain := if n = 0 then .a else .b

/-- The mode field with the block length register, before check 6: 0 SINGLE, 1 RUN, 2 BLOCK. -/
inductive ModeCode where
  | single
  | run
  | block
  deriving DecidableEq, Repr

def modeCode : Nat → Option ModeCode
  | 0 => some .single
  | 1 => some .run
  | 2 => some .block
  | _ => none

/-- Check 6: BLOCK needs a block length of 1–255; SINGLE and RUN need none (0 stands for absent). -/
def modeOf (m : ModeCode) (length : Nat) : Option Mode :=
  match m with
  | .single => if length = 0 then some .single else none
  | .run => if length = 0 then some .run else none
  | .block => if length = 0 || Config.blockMax < length then none else some (.block length)

/-- A check that fails answers its number. -/
def failing {α : Type} (check : Nat) : Option α → Except Nat α
  | some x => .ok x
  | none => .error check

def must (check : Nat) (holds : Bool) : Except Nat Unit :=
  if holds then .ok () else .error check

/-- The link of ARG6: bits 8:0 are examined only when bit 9 says a link is present; check 12. -/
def linkArg (w : Word) : Option (Option Link) :=
  if bits w 9 1 = 0 then some none
  else
    if h : bits w 0 8 < 64 then
      some (some ⟨⟨bits w 0 8, h⟩, if bits w 8 1 = 0 then .eachUnit else .atEnd⟩)
    else none

/-- LOAD's sixteen checks in the order of Table 1-4 over the argument block of Table 10-5: the
program, or the number of the first check that fails (R7). -/
def loadProgram (a : Table Word 8) : Except Nat Program := do
  let m ← failing 1 (modeCode (bits (a.row 1) 0 2))
  let size ← failing 2 (sizeCode (bits (a.row 1) 2 3))
  let ss ← failing 3 (stepCode (bits (a.row 1) 5 3))
  let ds ← failing 4 (stepCode (bits (a.row 1) 8 3))
  must 5 (!((ss == .incrementRewind || ds == .incrementRewind) && m != .block))
  let mode ← failing 6 (modeOf m (a.row 5).toNat)
  let n := (a.row 4).toNat
  must 7 (1 ≤ n && n ≤ Config.countMax)
  let src : Endpoint := ⟨domainBit (bits (a.row 1) 11 1), a.row 2, ss⟩
  let dst : Endpoint := ⟨domainBit (bits (a.row 1) 12 1), a.row 3, ds⟩
  must 8 (src.start.toNat % size.bytes == 0)
  must 9 (dst.start.toNat % size.bytes == 0)
  let b := blockSpan mode n
  let rs := byteRange ss src.start n size.bytes b
  let rd := byteRange ds dst.start n size.bytes b
  must 10 rs.fits
  must 11 rd.fits
  let link ← failing 12 (linkArg (a.row 6))
  let cls ← failing 13 (classCode (bits (a.row 7) 0 2))
  let ra ← failing 14 (readAheadCode (bits (a.row 7) 2 3))
  let policy ← failing 15 (policyCode (bits (a.row 7) 5 2))
  must 16 (!overlaps src dst rs rd)
  return { mode, size, src, dst, count := n, link, policy, cls, readAhead := ra }

/-! ### Units, elements and transactions (R51–R53, R62, R77) -/

/-- Table 3-3. -/
def unitSize (m : Mode) (remaining : Nat) : Nat :=
  match m with
  | .single => 1
  | .block length => min length remaining
  | .run => remaining

/-- Sides whose elements fill spans in ascending order (R53). -/
def Stepping.spanned : Stepping → Bool
  | .increment => true
  | .incrementRewind => true
  | .decrement => false
  | .fixed => false

/-- Address of element `i` (Table 3-4), a 32-bit value. -/
def Side.elementAddress (x : Side) (s i : Nat) : Word :=
  match x.step with
  | .increment => x.start + BitVec.ofNat 32 (i * s)
  | .incrementRewind => x.start + BitVec.ofNat 32 (i * s)
  | .decrement => x.start - BitVec.ofNat 32 (i * s)
  | .fixed => x.start

/-- Address a side carries out of a unit of `n` elements (Table 3-5, R62). -/
def Side.addressAfter (x : Side) (s n : Nat) : Word :=
  match x.step with
  | .increment => x.start + BitVec.ofNat 32 (n * s)
  | .decrement => x.start - BitVec.ofNat 32 (n * s)
  | .fixed => x.start
  | .incrementRewind => x.start

/-- Offset of the side's unit start address in its 32-byte span, for a spanned side; else 0. For
the source side this is the k of R77. -/
def Side.offset (x : Side) : Nat := if x.step.spanned then x.start.toNat % 32 else 0

/-- Number of transactions of a side for a unit of `n` elements of `s` bytes (R53). -/
def Side.txnCount (x : Side) (s n : Nat) : Nat :=
  if x.step.spanned then (x.offset + n * s + 31) / 32 else n

/-- First element of transaction `j` of a side (R53). -/
def Side.firstElement (x : Side) (s j : Nat) : Nat :=
  if x.step.spanned then (32 * j - x.offset) / s else j

/-- One past the last element of transaction `j` of a side of a unit of `n` elements (R53). -/
def Side.endElement (x : Side) (s n j : Nat) : Nat :=
  if x.step.spanned then min n ((32 * (j + 1) - x.offset) / s) else j + 1

/-- Transaction `j` of a side (R53). -/
def Side.txn (x : Side) (dir : Direction) (s n j : Nat) : Txn :=
  let first := x.firstElement s j
  let elems := x.endElement s n j - first
  { dir, index := j, address := x.elementAddress s first, length := elems * s, first, elems }

/-- Number of reads and of writes of the unit. -/
def Work.reads (w : Work) : Nat := w.src.txnCount w.size.bytes w.elements

def Work.writes (w : Work) : Nat := w.dst.txnCount w.size.bytes w.elements

def Work.read (w : Work) (j : Nat) : Txn := w.src.txn .read w.size.bytes w.elements j

def Work.write (w : Work) (j : Nat) : Txn := w.dst.txn .write w.size.bytes w.elements j

/-- Staging place of unit byte `u`: k + u (R77). -/
def Work.place (w : Work) (u : Nat) : Nat := w.src.offset + u

/-- First unit byte a transaction covers. -/
def Work.firstByte (w : Work) (t : Txn) : Nat := t.first * w.size.bytes

/-- The unit line a read lies in (R77). -/
def Work.unitLineOf (w : Work) (t : Txn) : Nat := w.place (w.firstByte t) / 32

/-- Unit line of the read at the read position. -/
def Work.wantedLine (w : Work) : Nat := w.unitLineOf (w.read w.readPos)

/-- The read at the read position is the first whose bytes lie in its unit line (R78). -/
def Work.needsLine (w : Work) : Bool :=
  w.src.step.spanned || w.firstByte (w.read w.readPos) % 32 == 0

/-- One past the last unit byte of the share of unit line `q` (R77). -/
def Work.shareEnd (w : Work) (q : Nat) : Nat :=
  min (w.elements * w.size.bytes) (32 * (q + 1) - w.src.offset)

/-- Every unit byte of the share of unit line `q` is confirmed (R82). -/
def Work.shareConfirmed (w : Work) (q : Nat) : Bool :=
  w.shareEnd q ≤ w.confirmed * w.size.bytes

/-- The read at the read position, when it is ready (R55). -/
def Work.readyRead (w : Work) : Option Txn :=
  if w.room && w.readPos < w.reads then some (w.read w.readPos) else none

/-- The write at the write position, when it is ready: every byte it covers has been read OKAY
(R56). -/
def Work.readyWrite (w : Work) : Option Txn :=
  let t := w.write w.writePos
  if w.writePos < w.writes && (t.first + t.elems) * w.size.bytes ≤ w.readBytes then some t
  else none

/-- What an engine offers to the Bus Master of a domain (R57): nothing unless RUNNING, nothing
while one of its transactions is under admission there, its ready write before its ready read. -/
def Engine.offerAt (g : Engine) (d : Domain) : Option Txn :=
  match g.phase with
  | .running w =>
    if (g.admission.get d).isSome then none
    else
      match (if w.dst.domain = d then w.readyWrite else none) with
      | some t => some t
      | none => if w.src.domain = d then w.readyRead else none
  | _ => none

/-- Table 4-2. -/
def ReadAhead.limit : ReadAhead → LineLimit
  | .depth2 => ⟨2, false⟩
  | .depth4 => ⟨4, false⟩
  | .depth8 => ⟨8, false⟩
  | .depth16 => ⟨16, false⟩
  | .depth32 => ⟨32, false⟩
  | .fair => ⟨32, true⟩

/-! ### Apertures (R89, R91) -/


def Rights.include (r : Rights) (dir : Direction) : Bool :=
  match r, dir with
  | .readWrite, _ => true
  | .read, .read => true
  | .write, .write => true
  | _, _ => false

/-- Grantees of an aperture of domain `d` include port `p` (R89). -/
def Grantees.include (g : Grantees) (d : Domain) (p : Port) : Bool :=
  match g with
  | .both => true
  | .self => p == d
  | .peer => p == d.peer

/-- The aperture wholly covers the byte range (R89). -/
def Grant.covers (g : Grant) (address : Word) (length : Nat) : Bool :=
  g.base.toNat ≤ address.toNat &&
    address.toNat + length ≤ g.base.toNat + g.pages * Config.pageBytes

/-- The aperture's fields qualify for a transaction of a channel of port `p` in domain `d` (R89);
its state is not looked at. -/
def Aperture.qualifies (x : Aperture) (d : Domain) (dir : Direction) (address : Word)
    (length : Nat) (p : Port) : Bool :=
  match x.grant with
  | some g => g.covers address length && g.rights.include dir && g.grantees.include d p
  | none => false

/-- The field checks of OPEN_APERTURE in the order of Table 5-2 (R91). -/
def grantArg (a : Table Word 8) : Except Nat Grant := do
  must 1 ((a.row 2).toNat % Config.pageBytes == 0)
  let pages := (a.row 3).toNat
  must 2 (1 ≤ pages && pages ≤ Config.pagesMax)
  must 3 ((a.row 2).toNat + pages * Config.pageBytes ≤ 4294967296)
  let rights ← failing 4 (rightsArg (a.row 4))
  let grantees ← failing 5 (granteesArg (a.row 5))
  return { base := a.row 2, pages, rights, grantees }

end Sys2Proof.Machine
end

