-- ==== Sys2Proof/Machine/Flags.lean ====
section
/-! DEFINITION. Status words and result registers: the codes and layouts of section 10.4, the port
status word (R164), and the levels of the hub's outputs (R38, R145). -/

namespace Sys2Proof.Machine

/-! ### Codes (sections 10.3 and 10.4) -/

/-- Table 10-2. -/
def ResultCode.value : ResultCode → Nat
  | .ok => 0
  | .accepted => 1
  | .notOnline => 2
  | .portClearing => 3
  | .unknownCommand => 4
  | .badChannel => 5
  | .notOwner => 6
  | .owned => 7
  | .wrongState => 8
  | .badField => 9
  | .creditFull => 10
  | .lineTaken => 11
  | .badLine => 12
  | .badAperture => 13
  | .inUse => 14
  | .queueEmpty => 15

def ownerValue : Option Port → Nat
  | none => 0
  | some .a => 1
  | some .b => 2

def domainValue : Domain → Nat
  | .a => 0
  | .b => 1

def Session.value : Session → Nat
  | .offline => 0
  | .online => 1
  | .clearing _ => 2

def ChannelState.value : ChannelState → Nat
  | .free => 0
  | .idle => 1
  | .ready => 2
  | .running => 3
  | .stopping => 4
  | .posting => 5
  | .faulted => 6

def AfterState.value : AfterState → Nat
  | .ready => 0
  | .idle => 1
  | .faulted => 2

def Origin.value : Origin → Nat
  | .credit => 0
  | .line => 1

def FaultKind.value : FaultKind → Nat
  | .accessDenied => 0
  | .apertureRevoked => 1
  | .readError => 2
  | .writeError => 3
  | .timeout => 4
  | .domainReset => 5

def ApertureState.value : ApertureState → Nat
  | .closed => 0
  | .open => 1
  | .draining => 2

def Rights.value : Rights → Nat
  | .read => 1
  | .write => 2
  | .readWrite => 3

def Grantees.value : Grantees → Nat
  | .self => 1
  | .peer => 2
  | .both => 3

def EngineState.value : EngineState → Nat
  | .idle => 0
  | .running => 1
  | .stopping => 2

def RefusalReason.value : RefusalReason → Nat
  | .notOwner => 0
  | .wrongState => 1
  | .creditFull => 2

/-- Codes of Table 10-5, as the PROGRAM view gives them back (R165). -/
def Mode.value : Mode → Nat
  | .single => 0
  | .run => 1
  | .block _ => 2

def Mode.blockLength : Mode → Nat
  | .block length => length
  | _ => 0

def ElementSize.value : ElementSize → Nat
  | .one => 0
  | .two => 1
  | .four => 2
  | .eight => 3

def Stepping.value : Stepping → Nat
  | .increment => 0
  | .decrement => 1
  | .fixed => 2
  | .incrementRewind => 3

def SchedClass.value : SchedClass → Nat
  | .urgent => 0
  | .normal => 1
  | .bulk => 2

def ReadAhead.value : ReadAhead → Nat
  | .depth2 => 0
  | .depth4 => 1
  | .depth8 => 2
  | .depth16 => 3
  | .depth32 => 4
  | .fair => 5

def NoticePolicy.value : NoticePolicy → Nat
  | .eachUnit => 0
  | .atEnd => 1
  | .silent => 2

def LinkCondition.value : LinkCondition → Nat
  | .eachUnit => 0
  | .atEnd => 1

def flag (b : Bool) : Nat := if b then 1 else 0

/-! ### Packing -/

/-- The value `v` placed with its least significant bit at bit `lo` of a register. -/
def place (lo v : Nat) : Word := BitVec.ofNat 32 v <<< lo

/-- Four result registers. -/
def results (r0 r1 r2 r3 : Word) : Table Word 4 :=
  (((Table.fill 4 (0 : Word)).put 0 r0).put 1 r1).put 2 r2 |>.put 3 r3

/-- An answer whose result registers are written 0 (R161). -/
def Reply.plain (code : ResultCode) : Reply := ⟨code, results 0 0 0 0⟩

/-- BAD_FIELD with the number of the failing check in RES0 (Table 10-7). -/
def Reply.badField (check : Nat) : Reply := ⟨.badField, results (place 0 check) 0 0 0⟩

/-- An answer that uses RES1 alone (OPEN_APERTURE, REVOKE_APERTURE, SET_RESPONSE_LIMIT, CLEAR_BUS in
Table 10-7). -/
def Reply.withRes1 (code : ResultCode) (v : Nat) : Reply := ⟨code, results 0 (place 0 v) 0 0⟩

/-! ### READ_CHANNEL (R12, R165, Table 10-6) -/

/-- The STATUS positions of state and owner, which any port receives. -/
def statusPublic (c : Channel) : Word :=
  place 0 c.state.value ||| place 3 (ownerValue c.owner)

def statusWord (c : Channel) : Word :=
  statusPublic c ||| place 5 c.credit ||| place 9 (flag c.linePending)
    ||| (match c.mappedLine with
         | some l => place 10 l.val ||| place 14 1
         | none => 0)
    ||| (match c.afterState with
         | some x => place 15 x.value ||| place 17 1
         | none => 0)
    ||| (match c.origin with
         | some x => place 18 x.value ||| place 19 1
         | none => 0)
    ||| place 20 (flag c.loaded.isSome) ||| place 21 (flag c.fault.isSome)

def statusView (c : Channel) : Table Word 4 :=
  match c.loaded with
  | some ld => results (statusWord c) ld.curSrc ld.curDst (place 0 ld.remaining)
  | none => results (statusWord c) 0 0 0

def programView (c : Channel) : Table Word 4 :=
  match c.loaded with
  | none => results 0 0 0 0
  | some ld =>
    let p := ld.program
    results
      (place 0 p.mode.value ||| place 2 p.size.value ||| place 5 p.src.step.value
        ||| place 8 p.dst.step.value ||| place 11 (domainValue p.src.domain)
        ||| place 12 (domainValue p.dst.domain) ||| place 13 p.cls.value
        ||| place 15 p.readAhead.value ||| place 18 p.policy.value
        ||| place 20 p.mode.blockLength ||| place 31 1)
      p.src.start p.dst.start
      (place 0 p.count |||
        (match p.link with
         | some k => place 24 k.target.val ||| place 30 k.condition.value ||| place 31 1
         | none => 0))

def faultView (c : Channel) : Table Word 4 :=
  match c.fault with
  | none => results 0 0 0 0
  | some r =>
    results
      (place 0 1 ||| place 1 r.kind.value ||| place 4 (domainValue r.domain)
        ||| place 5 (flag r.collateral))
      r.address (place 0 r.index) 0

/-- The view an owner or another port receives (R12): another port, and either port at a FREE
channel, receives owner and state alone. -/
def channelView (p : Port) (view : Nat) (c : Channel) : Table Word 4 :=
  if c.owner = some p then
    match view with
    | 0 => statusView c
    | 1 => programView c
    | _ => faultView c
  else results (statusPublic c) 0 0 0

/-! ### QUERY_TABLE (R13, Table 10-7) -/

/-- Bit n set exactly when `f n`, for the first `n` bits. -/
def bitMap (f : Nat → Bool) : Nat → Word
  | 0 => 0
  | n + 1 => bitMap f n ||| place n (flag (f n))

def channelBit (t : Table Channel 64) (f : Channel → Bool) (n : Nat) : Bool :=
  if h : n < 64 then f (t.row ⟨n, h⟩) else false

/-- One map of 64 entries in two registers. -/
def channelMap (t : Table Channel 64) (f : Channel → Bool) : Word × Word :=
  (bitMap (fun n => channelBit t f n) 32, bitMap (fun n => channelBit t f (32 + n)) 32)

def tableView (p : Port) (t : Table Channel 64) : Table Word 4 :=
  let free := channelMap t (fun c => c.state = .free)
  let own := channelMap t (fun c => c.owner = some p)
  results free.1 free.2 own.1 own.2

/-! ### READ_ENGINES (R74, Table 10-7) -/

def ServedView.value : ServedView → Nat
  | .absent => 0xFF
  | .own ch => ch.val
  | .other => 0x40

def engineWordOf (v : EngineView) : Word :=
  place 0 v.state.value ||| place 2 v.served.value ||| place 10 v.linesHeld

def enginesView (v : Table EngineView 4) (freeShared : Nat) : Table Word 4 :=
  results (engineWordOf (v.row 0) ||| place 24 freeShared) (engineWordOf (v.row 1))
    (engineWordOf (v.row 2)) (engineWordOf (v.row 3))

/-! ### QUERY_APERTURE (R96, Tables 5-3 and 10-8) -/

/-- A port that is a grantee of an aperture in its peer's domain: grantees PEER or BOTH. -/
def Grantees.toPeer : Grantees → Bool
  | .self => false
  | .peer => true
  | .both => true

def apertureOwnView (x : Aperture) : Table Word 4 :=
  let common := place 0 x.state.value ||| place 2 x.generation.toNat ||| place 10 1
    ||| place 11 x.users ||| place 16 1
  match x.grant with
  | some g =>
    results (common ||| place 17 g.rights.value ||| place 19 g.grantees.value ||| place 21 1
      ||| place 22 1) g.base (place 0 g.pages) 0
  | none => results common 0 0 0

def aperturePeerView (x : Aperture) : Table Word 4 :=
  match x.grant with
  | some g =>
    if x.state ≠ .closed ∧ g.grantees.toPeer then
      results (place 0 x.state.value ||| place 2 x.generation.toNat ||| place 10 1
        ||| place 17 g.rights.value ||| place 22 1) g.base (place 0 g.pages) 0
    else results (place 0 x.state.value) 0 0 0
  | none => results (place 0 x.state.value) 0 0 0

/-! ### Notice records (R166, Table 10-9) -/

def channelSubject (ch : ChannelNo) : Nat := 0x40 + ch.val

def apertureSubject (d : Domain) (i : ApertureNo) : Nat := 0x80 + 8 * domainValue d + i.val

def Notice.kind : Notice → Nat
  | .channel (.unitDone ..) => 1
  | .channel (.channelDone ..) => 2
  | .channel (.aborted ..) => 3
  | .channel (.fault ..) => 4
  | .system (.linkRefused ..) => 5
  | .system (.apertureOffered ..) => 6
  | .system (.apertureWithdrawn ..) => 7
  | .system (.revokeDone ..) => 8
  | .system .peerLost => 9
  | .system .peerReady => 10

/-- RES1, RES2 and RES3 of a record. -/
def Notice.body : Notice → Word × Word × Word
  | .channel (.unitDone ch remaining done origin) =>
    (place 0 (channelSubject ch) ||| place 8 origin.value, place 0 remaining, place 0 done)
  | .channel (.channelDone ch remaining done origin unused) =>
    (place 0 (channelSubject ch) ||| place 8 origin.value ||| place 12 unused,
      place 0 remaining, place 0 done)
  | .channel (.aborted ch remaining done origin) =>
    (place 0 (channelSubject ch) ||| place 8 origin.value, place 0 remaining, place 0 done)
  | .channel (.fault ch r) =>
    (place 0 (channelSubject ch) ||| place 8 r.kind.value ||| place 11 (domainValue r.domain)
      ||| place 12 (flag r.collateral), r.address, place 0 r.index)
  | .system (.linkRefused source target reason) =>
    (place 0 (channelSubject source) ||| place 8 target.val ||| place 14 reason.value, 0, 0)
  | .system (.apertureOffered d i generation base pages rights) =>
    (place 0 (apertureSubject d i) ||| place 8 generation.toNat ||| place 16 rights.value, base,
      place 0 pages)
  | .system (.apertureWithdrawn d i generation) =>
    (place 0 (apertureSubject d i) ||| place 8 generation.toNat, 0, 0)
  | .system (.revokeDone d i generation) =>
    (place 0 (apertureSubject d i) ||| place 8 generation.toNat, 0, 0)
  | .system .peerLost => (0, 0, 0)
  | .system .peerReady => (0, 0, 0)

def noticeView (r : NoticeRecord) : Table Word 4 :=
  let b := r.notice.body
  results (place 0 r.notice.kind ||| place 8 r.repeats ||| place 16 r.sequence.toNat) b.1 b.2.1
    b.2.2

/-! ### Outputs and the port status word -/

/-- ACKn is asserted exactly while the line is ACKING (R38). -/
def ackLevel (s : State) (l : LineNo) : Bool := (s.lines.row l).state = .acking

/-- INTx is asserted exactly while the queue holds a record and the enable is SET (R145). -/
def NoticeUnit.intLevel (u : NoticeUnit) : Bool := u.enable && !u.queue.isEmpty

def intLevel (s : State) (p : Port) : Bool := (s.notices.get p).intLevel

/-- PSTAT (R164, Table 10-4). -/
def portStatus (s : State) (p : Port) : Word :=
  let u := s.ports.get p
  let n := s.notices.get p
  place 0 u.session.value ||| place 2 (s.ports.get p.peer).session.value
    ||| place 4 (flag u.latched.isSome) ||| place 5 u.result.value ||| place 9 (flag u.dropped)
    ||| place 10 n.queue.length ||| place 16 (flag n.intLevel)

/-- A host read of a window register (R159, Table 10-1): zero while PRSTx is asserted (R153). A
read changes nothing, so it is a function and not a step (log entry 27). An argument register reads back
all 32 bits last written, assigned or not. DEDUCED, log entry 44, unsafe for those bits. -/
def readWindow (s : State) (p : Port) (offset : BitVec 6) : Word :=
  let u := s.ports.get p
  if s.prst.get p then 0
  else
    match offset.toNat with
    | 0x00 => u.cmd
    | 0x04 => u.args.row 0
    | 0x08 => u.args.row 1
    | 0x0C => u.args.row 2
    | 0x10 => u.args.row 3
    | 0x14 => u.args.row 4
    | 0x18 => u.args.row 5
    | 0x1C => u.args.row 6
    | 0x20 => u.args.row 7
    | 0x24 => u.res.row 0
    | 0x28 => u.res.row 1
    | 0x2C => u.res.row 2
    | 0x30 => u.res.row 3
    | 0x34 => portStatus s p
    | 0x38 => place 0 (flag (s.notices.get p).enable)
    | _ => 0

end Sys2Proof.Machine
end

