-- ==== Sys2Proof/Machine/Ops.lean ====
section
/-! DEFINITION. The named operations over the state that the meanings share: access to the records,
hand-offs between blocks, run queues and lines, notices, staging lines, the stop of a unit, the
closing of an aperture, and the start of a teardown. -/

namespace Sys2Proof.Machine

/-! ### Records -/

def State.channel (s : State) (ch : ChannelNo) : Channel := s.channels.row ch

def State.setChannel (s : State) (ch : ChannelNo) (c : Channel) : State :=
  { s with channels := s.channels.put ch c }

def State.line (s : State) (l : LineNo) : Line := s.lines.row l

def State.setLine (s : State) (l : LineNo) (x : Line) : State :=
  { s with lines := s.lines.put l x }

def State.setTrigger (s : State) (t : TriggerUnit) : State := { s with trigger := t }

def State.engine (s : State) (e : EngineNo) : Engine := s.engines.row e

/-- The standing offers follow the rest of the engine's state at every happening (R57). -/
def Engine.reoffer (g : Engine) : Engine := { g with offers := ⟨g.offerAt .a, g.offerAt .b⟩ }

def State.setEngine (s : State) (e : EngineNo) (g : Engine) : State :=
  { s with engines := s.engines.put e g.reoffer }

def State.setPool (s : State) (x : Pool) : State := { s with pool := x }

def State.poolEngine (s : State) (e : EngineNo) : PoolEngine := s.pool.engines.row e

def State.setPoolEngine (s : State) (e : EngineNo) (x : PoolEngine) : State :=
  s.setPool { s.pool with engines := s.pool.engines.put e x }

def State.apertureUnit (s : State) (d : Domain) : ApertureUnit := s.apertures.get d

def State.setApertureUnit (s : State) (d : Domain) (x : ApertureUnit) : State :=
  { s with apertures := s.apertures.set d x }

def State.aperture (s : State) (d : Domain) (i : ApertureNo) : Aperture :=
  (s.apertureUnit d).records.row i

def State.setAperture (s : State) (d : Domain) (i : ApertureNo) (x : Aperture) : State :=
  let u := s.apertureUnit d
  s.setApertureUnit d { u with records := u.records.put i x }

def State.master (s : State) (d : Domain) : BusMaster := s.masters.get d

def State.setMaster (s : State) (d : Domain) (x : BusMaster) : State :=
  { s with masters := s.masters.set d x }

def State.noticeUnit (s : State) (p : Port) : NoticeUnit := s.notices.get p

def State.setNoticeUnit (s : State) (p : Port) (x : NoticeUnit) : State :=
  { s with notices := s.notices.set p x }

def State.port (s : State) (p : Port) : PortUnit := s.ports.get p

def State.setPort (s : State) (p : Port) (x : PortUnit) : State :=
  { s with ports := s.ports.set p x }

def State.setWires (s : State) (w : Wires) : State := { s with wires := w }

def State.setTableClearing (s : State) (p : Port) (b : Bool) : State :=
  { s with tableClearing := s.tableClearing.set p b }

/-- The session of a port as a block that consults it finds it (R148). -/
def State.online (s : State) (p : Port) : Bool :=
  match (s.port p).session with
  | .online => true
  | _ => false

/-! ### Lists of hand-offs -/

/-- The first element that `f` picks, with the rest in their order. -/
def takeFirst {α : Type} (f : α → Bool) : List α → Option (α × List α)
  | [] => none
  | x :: xs =>
    if f x then some (x, xs)
    else
      match takeFirst f xs with
      | some (y, ys) => some (y, x :: ys)
      | none => none

/-- The element at a position, with the rest in their order. -/
def takeAt {α : Type} : Nat → List α → Option (α × List α)
  | _, [] => none
  | 0, x :: xs => some (x, xs)
  | n + 1, x :: xs =>
    match takeAt n xs with
    | some (y, ys) => some (y, x :: ys)
    | none => none

/-! ### Sending a hand-off -/

def State.sendAnswer (s : State) (p : Port) (a : Answer) : State :=
  s.setWires { s.wires with answers := s.wires.answers.set p (s.wires.answers.get p ++ [a]) }

def State.sendAck (s : State) (w : LineWord) : State :=
  s.setWires { s.wires with acks := s.wires.acks ++ [w] }

def State.sendReturn (s : State) (w : LineWord) : State :=
  s.setWires { s.wires with returns := s.wires.returns ++ [w] }

def State.sendCause (s : State) (w : CauseWord) : State :=
  s.setWires { s.wires with causes := s.wires.causes ++ [w] }

def State.sendReport (s : State) (w : EngineReport) : State :=
  s.setWires { s.wires with reports := s.wires.reports ++ [w] }

def State.sendLink (s : State) (w : LinkWord) : State :=
  s.setWires { s.wires with links := s.wires.links ++ [w] }

/-- A system notice is handed to a Notice Unit, which takes it as a happening of its own (R138). -/
def State.postSystem (s : State) (p : Port) (n : SystemNotice) : State :=
  s.setWires { s.wires with postings := s.wires.postings.set p (s.wires.postings.get p ++ [n]) }

def State.sendAperture (s : State) (d : Domain) (w : ApertureWord) : State :=
  s.setWires { s.wires with aperture := s.wires.aperture.set d (s.wires.aperture.get d ++ [w]) }

def State.sendEngineWord (s : State) (d : Domain) (w : EngineWord) : State :=
  s.setWires
    { s.wires with engineWords := s.wires.engineWords.set d (s.wires.engineWords.get d ++ [w]) }

def State.setOfferBack (s : State) (d : Domain) (e : EngineNo) (w : Option OfferWord) : State :=
  s.setWires
    { s.wires with offersBack := s.wires.offersBack.set d ((s.wires.offersBack.get d).put e w) }

def State.sendField (s : State) (p : Port) (f : TeardownField) : State :=
  s.setWires { s.wires with fields := s.wires.fields.set p (s.wires.fields.get p ++ [f]) }

/-! ### Run queues (R14, R30, R31, R34) -/

def TriggerUnit.queue (t : TriggerUnit) : SchedClass → List ChannelNo
  | .urgent => t.urgent
  | .normal => t.normal
  | .bulk => t.bulk

def TriggerUnit.setQueue (t : TriggerUnit) (k : SchedClass) (q : List ChannelNo) : TriggerUnit :=
  match k with
  | .urgent => { t with urgent := q }
  | .normal => { t with normal := q }
  | .bulk => { t with bulk := q }

def TriggerUnit.holds (t : TriggerUnit) (ch : ChannelNo) : Bool :=
  t.urgent.contains ch || t.normal.contains ch || t.bulk.contains ch

/-- Whenever a queue becomes empty, its skip counter is set to 0 (R34). -/
def TriggerUnit.settle (t : TriggerUnit) : TriggerUnit :=
  { t with
    normalSkip := if t.normal.isEmpty then 0 else t.normalSkip
    bulkSkip := if t.bulk.isEmpty then 0 else t.bulkSkip }

/-- A channel joins the tail of its class's queue, once (R30). -/
def TriggerUnit.join (t : TriggerUnit) (k : SchedClass) (ch : ChannelNo) : TriggerUnit :=
  if t.holds ch then t else t.setQueue k (t.queue k ++ [ch])

/-- A channel leaves from wherever it stands, and the others keep their order (R30, R34). -/
def TriggerUnit.leave (t : TriggerUnit) (ch : ChannelNo) : TriggerUnit :=
  { t with
    urgent := t.urgent.filter (· != ch)
    normal := t.normal.filter (· != ch)
    bulk := t.bulk.filter (· != ch) }.settle

/-- READY with credit above 0 or line pending yes (section 1.6). -/
def Channel.eligible (c : Channel) : Bool :=
  c.state = .ready && (0 < c.credit || c.linePending)

/-- A channel can take a line trigger when it is READY, RUNNING or POSTING (R40). -/
def Channel.canTake (c : Channel) : Bool :=
  match c.state with
  | .ready => true
  | .running => true
  | .posting => true
  | _ => false

/-- A channel joins the queue of the class of its loaded program (R31). -/
def State.joinQueue (s : State) (ch : ChannelNo) : State :=
  match (s.channel ch).loaded with
  | some ld => s.setTrigger (s.trigger.join ld.program.cls ch)
  | none => s

def State.leaveQueue (s : State) (ch : ChannelNo) : State := s.setTrigger (s.trigger.leave ch)

/-- The Channel Table writes a record and, when that changes whether the channel is eligible, tells
the Trigger Unit within the same happening: the channel joins its queue's tail or leaves (R14). -/
def State.writeChannel (s : State) (ch : ChannelNo) (c : Channel) : State :=
  let was := (s.channel ch).eligible
  let t := s.setChannel ch c
  if was = c.eligible then t else if c.eligible then t.joinQueue ch else t.leaveQueue ch

/-! ### Lines (R39–R48) -/

/-- A WAITING line takes a trigger when REQ is asserted and its channel can take one: the line goes
PENDING and line pending becomes yes (R40). In every other case nothing changes. -/
def State.takeTrigger (s : State) (l : LineNo) : State :=
  let x := s.line l
  match x.mapping with
  | none => s
  | some m =>
    let c := s.channel m.channel
    if x.state = .waiting ∧ s.req.row l ∧ c.canTake then
      (s.setLine l { x with state := .pending }).writeChannel m.channel { c with linePending := true }
    else s

/-- The Channel Table tells the Line Map that a channel has entered a state that can take a
trigger; its mapped WAITING line takes one if REQ is asserted (R40). -/
def State.channelAble (s : State) (ch : ChannelNo) : State :=
  match (s.channel ch).mappedLine with
  | some l => s.takeTrigger l
  | none => s

/-- A line goes UNMAPPED with ACK deasserted, its channel's mapped line becomes absent, and a
pending trigger is discarded (R46, R47, R48). -/
def State.unmap (s : State) (l : LineNo) : State :=
  let x := s.line l
  let t := s.setLine l { x with state := .unmapped, mapping := none }
  match x.mapping with
  | none => t
  | some m =>
    t.writeChannel m.channel { t.channel m.channel with mappedLine := none, linePending := false }

/-! ### Notices (R135–R143) -/

/-- A record enters the queue with the unit's sequence number, which then rises by one (R140). -/
def NoticeUnit.enter (u : NoticeUnit) (n : Notice) (repeats : Nat) : NoticeUnit :=
  { u with queue := u.queue ++ [⟨n, u.sequence, repeats⟩], sequence := u.sequence + 1 }

/-- Same kind and same subject (R139). -/
def SystemNotice.sameKey : SystemNotice → SystemNotice → Bool
  | .linkRefused x _ _, .linkRefused y _ _ => x = y
  | .apertureOffered d i _ _ _ _, .apertureOffered d' i' _ _ _ _ => d = d' && i = i'
  | .apertureWithdrawn d i _, .apertureWithdrawn d' i' _ => d = d' && i = i'
  | .revokeDone d i _, .revokeDone d' i' _ => d = d' && i = i'
  | .peerLost, .peerLost => true
  | .peerReady, .peerReady => true
  | _, _ => false

/-- A notice merges into the entry of its key, which keeps its place (R139); none when no entry has
its key. -/
def mergeDeferred (n : SystemNotice) : List Deferred → Option (List Deferred)
  | [] => none
  | x :: xs =>
    if x.notice.sameKey n then some (⟨n, min Config.repeatMax (x.repeats + 1)⟩ :: xs)
    else (mergeDeferred n xs).map (x :: ·)

/-- A Notice Unit of an ONLINE port places a system notice (R138, cases 2 to 4). -/
def NoticeUnit.placeSystem (u : NoticeUnit) (n : SystemNotice) : NoticeUnit :=
  if u.queue.length < Config.queueSize then u.enter (.system n) 1
  else
    match mergeDeferred n u.deferred with
    | some ds => { u with deferred := ds }
    | none => { u with deferred := u.deferred ++ [⟨n, 1⟩] }

/-- The record a channel has when it enters its next state at a report or a release from parking:
entering IDLE or FAULTED discards the credit and drops a pending line (R14, R19, R21). -/
def Channel.settled (c : Channel) (next : AfterState) : Channel :=
  let base := { c with origin := none, servedLine := none, afterState := none }
  match next with
  | .ready => { base with state := .ready }
  | .idle => { base with state := .idle, credit := 0, linePending := false }
  | .faulted => { base with state := .faulted, credit := 0, linePending := false }

/-- The channel enters its next state at the end of a report (R19). -/
def State.enterNext (s : State) (ch : ChannelNo) (next : AfterState) : State :=
  (s.writeChannel ch ((s.channel ch).settled next)).channelAble ch

/-- The notice is refused: the channel goes POSTING with the next state as after-state, and the
notice joins the tail of the owner's Parking List (R19, R137, R143). -/
def State.park (s : State) (ch : ChannelNo) (p : Port) (n : ChannelNotice) (next : AfterState) :
    State :=
  let u := s.noticeUnit p
  let t := s.setNoticeUnit p { u with parking := u.parking ++ [⟨ch, n⟩] }
  (t.writeChannel ch
    { t.channel ch with
      state := .posting, afterState := some next, origin := none, servedLine := none }).channelAble ch

/-- A report offers its notice, if any, to the owner's Notice Unit within the report's happening
and the channel takes its next state (R19, R23, R137, R141). -/
def State.concludeUnit (s : State) (ch : ChannelNo) (notice : Option ChannelNotice)
    (next : AfterState) : State :=
  match notice, (s.channel ch).owner with
  | some n, some p =>
    if !s.online p then s.enterNext ch next
    else if (s.noticeUnit p).queue.length < Config.channelRoom then
      (s.setNoticeUnit p ((s.noticeUnit p).enter (.channel n) 1)).enterNext ch next
    else s.park ch p n next
  | _, _ => s.enterNext ch next

/-- A parked channel's entry leaves its owner's Parking List, from wherever it stands (R143). -/
def NoticeUnit.unpark (u : NoticeUnit) (ch : ChannelNo) : NoticeUnit :=
  { u with parking := u.parking.filter (fun x => x.channel != ch) }

/-! ### A channel becomes FREE (R1, R5, R23, R26) -/

/-- The channel leaves its run queue, its line is unmapped, a parked notice of it is discarded, and
the record takes the values of R1. -/
def State.freeChannel (s : State) (ch : ChannelNo) : State :=
  let c := s.channel ch
  let s1 := match c.mappedLine with
    | some l => s.unmap l
    | none => s
  let s2 := match c.owner with
    | some p => s1.setNoticeUnit p ((s1.noticeUnit p).unpark ch)
    | none => s1
  s2.writeChannel ch .free

/-- Some record is owned by a port. -/
def State.owns (s : State) (p : Port) : Bool :=
  (List.finRange 64).any fun ch => (s.channel ch).owner = some p

/-- While a teardown of x is under way at the Channel Table and x owns no channel any more, it
reports so to Port Command Unit x (R27). -/
def State.reportChannels (s : State) (p : Port) : State :=
  if s.tableClearing.get p && !s.owns p then
    (s.setTableClearing p false).sendField p .channels
  else s

/-! ### Staging Pool (R75–R86) -/

/-- Lines 8 to 127 are shared (Table 4-1). -/
def sharedLine (x : StagingLine) : Bool := 8 ≤ x.val

/-- The two reserve lines of an engine (Table 4-1). -/
def reserveLow (e : EngineNo) : StagingLine := ⟨2 * e.val, by omega⟩

def reserveHigh (e : EngineNo) : StagingLine := ⟨2 * e.val + 1, by omega⟩

def PoolEngine.holds (x : PoolEngine) (n : StagingLine) : Bool := x.held.any fun h => h.line = n

/-- The lower-numbered free reserve line of an engine. -/
def PoolEngine.freeReserve (x : PoolEngine) (e : EngineNo) : Option StagingLine :=
  if !x.holds (reserveLow e) then some (reserveLow e)
  else if !x.holds (reserveHigh e) then some (reserveHigh e)
  else none

def PoolEngine.fair (x : PoolEngine) : Bool :=
  match x.limit with
  | some k => k.fair
  | none => false

def PoolEngine.limitLines (x : PoolEngine) : Nat :=
  match x.limit with
  | some k => k.lines
  | none => 0

/-- An engine may take a shared line when `free` shared lines are free, that line included: its
setting is not FAIR, or at least 60 are (R79, R83). -/
def PoolEngine.mayTake (x : PoolEngine) (free : Nat) : Bool :=
  if x.fair then Config.fairFree ≤ free else 0 < free

/-- The unit line the engine's next read lies in. -/
def Engine.wantedLine (g : Engine) : Nat :=
  match g.phase with
  | .running w => w.wantedLine
  | _ => 0

/-- The room of the read at the read position is given (R55). -/
def Engine.givenRoom (g : Engine) : Engine :=
  match g.phase with
  | .running w => { g with phase := .running { w with room := true } }
  | _ => g

/-- The engine holds the line as the room of its read, leaves the Line Wait List if it stands there,
and has no pending request (R79, R83, R84). -/
def State.giveLine (s : State) (e : EngineNo) (n : StagingLine) : State :=
  let x := s.poolEngine e
  let g := s.engine e
  (s.setPool
    { s.pool with
      engines := s.pool.engines.put e
        { x with held := x.held ++ [⟨g.wantedLine, n⟩], request := .none }
      waiting := s.pool.waiting.filter (· != e) }).setEngine e g.givenRoom

/-- A request for a new line: at its limit, a reserve line, a shared line, or the Line Wait List,
by the first case that applies (R79). -/
def State.requestLine (s : State) (e : EngineNo) : State :=
  let x := s.poolEngine e
  if x.limitLines ≤ x.held.length then s.setPoolEngine e { x with request := .atLimit }
  else
    match x.freeReserve e with
    | some n => s.giveLine e n
    | none =>
      match s.pool.free with
      | n :: rest =>
        if x.mayTake s.pool.free.length then (s.setPool { s.pool with free := rest }).giveLine e n
        else
          s.setPool
            { s.pool with
              engines := s.pool.engines.put e { x with request := .listed }
              waiting := s.pool.waiting ++ [e] }
      | [] =>
        s.setPool
          { s.pool with
            engines := s.pool.engines.put e { x with request := .listed }
            waiting := s.pool.waiting ++ [e] }

/-- A shared line freed or released goes to the oldest waiter that may take it, or joins the tail
of the shared free list (R83). -/
def State.handOver (s : State) (n : StagingLine) : State :=
  match s.pool.waiting.find? (fun e => (s.poolEngine e).mayTake (s.pool.free.length + 1)) with
  | some e => s.giveLine e n
  | none => s.setPool { s.pool with free := s.pool.free ++ [n] }

/-- One line an engine holds is freed; a shared line is disposed of under R83 (R82). -/
def State.freeLine (s : State) (e : EngineNo) (h : HeldLine) : State :=
  let x := s.poolEngine e
  let t := s.setPoolEngine e { x with held := x.held.filter (fun k => k.line != h.line) }
  if sharedLine h.line then t.handOver h.line else t

/-- Lines freed one after another, in ascending unit-line order (R82, R83, R85). -/
def State.freeLines (s : State) (e : EngineNo) (hs : List HeldLine) : State :=
  hs.foldl (fun t h => t.freeLine e h) s

/-- After freed lines have been disposed of, the freeing engine's pending request is taken up;
`reserve` says that one of the freed lines was a reserve line (R84). -/
def State.takeUpRequest (s : State) (e : EngineNo) (reserve : Bool) : State :=
  let x := s.poolEngine e
  match x.request with
  | .none => s
  | .atLimit => s.requestLine e
  | .listed =>
    if reserve then
      match x.freeReserve e with
      | some n => s.giveLine e n
      | none => s
    else s

/-- The pool takes an engine's report of confirmed bytes: each line of a RUNNING engine whose share
is wholly confirmed is freed, and the pending request is taken up (R82, R84). -/
def State.takeConfirmed (s : State) (e : EngineNo) : State :=
  match (s.engine e).phase with
  | .running w =>
    match (s.poolEngine e).held.filter (fun h => w.shareConfirmed h.unitLine) with
    | [] => s
    | hs => (s.freeLines e hs).takeUpRequest e (hs.any fun h => !sharedLine h.line)
  | _ => s

/-- When an engine takes a stop cause, its pending request is dropped and it leaves the Line Wait
List (R85). -/
def State.dropRequest (s : State) (e : EngineNo) : State :=
  s.setPool
    { s.pool with
      engines := s.pool.engines.put e { s.poolEngine e with request := .none }
      waiting := s.pool.waiting.filter (· != e) }

/-- An engine becomes IDLE at the pool: it gives up every line it holds in ascending unit-line order,
its limit becomes absent and its pending request NONE, so that it stands on no list (R85, R86). By then
its request is NONE already, under R85 at a stop and under R86 at a unit's end. -/
def State.releaseLines (s : State) (e : EngineNo) : State :=
  let t := (s.dropRequest e).freeLines e (s.poolEngine e).held
  t.setPoolEngine e { t.poolEngine e with limit := none }

/-- The staging line that holds a unit line of an engine (R77). -/
def PoolEngine.lineOf (x : PoolEngine) (q : Nat) : Option StagingLine :=
  (x.held.find? fun h => h.unitLine = q).map (·.line)

/-- Data of a read stored at the places of the bytes it covers (R59, R77). -/
def State.storeRead (s : State) (e : EngineNo) (w : Work) (t : Txn) (data : List Byte) : State :=
  match (s.poolEngine e).lineOf (w.unitLineOf t) with
  | none => s
  | some n =>
    let o := w.place (w.firstByte t) % 32
    let old := s.pool.data.row n
    s.setPool
      { s.pool with
        data := s.pool.data.put n
          (.tabulate fun j =>
            if o ≤ j.val ∧ j.val < o + t.length then data.getD (j.val - o) 0 else old.row j) }

/-- The byte the engine holds in staging for unit byte `u` (R77). -/
def State.stagedByte (s : State) (e : EngineNo) (w : Work) (u : Nat) : Byte :=
  match (s.poolEngine e).lineOf (w.place u / 32) with
  | none => 0
  | some n => (s.pool.data.row n).row ⟨w.place u % 32, Nat.mod_lt _ (by decide)⟩

/-- The bytes a write issues: those held in staging for the bytes it covers (R56, R110). -/
def State.writeBytes (s : State) (e : EngineNo) (w : Work) (t : Txn) : List Byte :=
  (List.range t.length).map fun i => s.stagedByte e w (w.firstByte t + i)

/-! ### Ends and stops of a unit (R61, R66, R72) -/

/-- The engine serving a channel, if any. -/
def State.servedBy (s : State) (ch : ChannelNo) : Option EngineNo :=
  (List.finRange 4).find? fun e =>
    match (s.engine e).phase with
    | .idle => false
    | .running w => w.channel = ch
    | .stopping w _ => w.channel = ch

/-- The engine owes nothing: its outstanding list is empty and nothing of it is under admission at
either Bus Master (R72). -/
def Engine.owesNothing (g : Engine) : Bool :=
  g.outstanding.isEmpty && (g.admission.get .a).isNone && (g.admission.get .b).isNone

/-- A STOPPING engine that owes nothing ends its stop: it releases its lines, sends the stop report
at the first unconfirmed element and becomes IDLE (R72). Any other engine is left as it is. -/
def State.tryStopEnd (s : State) (e : EngineNo) : State :=
  let g := s.engine e
  match g.phase with
  | .stopping w c =>
    if g.owesNothing then
      let r : Progress :=
        { src := w.src.elementAddress w.size.bytes w.confirmed
          dst := w.dst.elementAddress w.size.bytes w.confirmed
          done := w.confirmed }
      ((s.releaseLines e).sendReport ⟨w.channel, .stop r c⟩).setEngine e .idle
    else s
  | _ => s

/-- A RUNNING engine takes a stop cause: it becomes STOPPING, withdraws its offers, its request at
the pool is dropped, and its stop ends at once when it owes nothing (R68, R69, R71, R85). -/
def State.beginStop (s : State) (e : EngineNo) (w : Work) (c : StopCause) : State :=
  ((s.setEngine e { s.engine e with phase := .stopping w c }).dropRequest e).tryStopEnd e

/-- A RUNNING engine takes a fault: cause FAULT with its record, and the message to the Channel
Table, before anything else it sends (R66, R67). -/
def State.takeFault (s : State) (e : EngineNo) (w : Work) (r : FaultRecord) : State :=
  (s.sendReport ⟨w.channel, .faulted⟩).beginStop e w (.fault r)

/-- The unit ends: the addresses of R62, the unit-end report, and the engine IDLE (R61). The pool
has freed its lines before the report is sent (R86). -/
def State.endUnit (s : State) (e : EngineNo) (w : Work) : State :=
  let r : Progress :=
    { src := w.src.addressAfter w.size.bytes w.elements
      dst := w.dst.addressAfter w.size.bytes w.elements
      done := w.elements }
  ((s.releaseLines e).sendReport ⟨w.channel, .unitEnd r w.origin⟩).setEngine e .idle

/-- The fault record of a failing transaction (R67). -/
def faultOf (k : FaultKind) (d : Domain) (t : Txn) (collateral : Bool) : FaultRecord :=
  { kind := k, domain := d, address := t.address, index := t.first, collateral }

/-! ### Apertures (R95, R104) -/

def State.allClosed (s : State) (d : Domain) : Bool :=
  (List.finRange 8).all fun i => (s.aperture d i).state = .closed

/-- An aperture closes: CLOSED, REVOKE_DONE to the own port, and APERTURE_WITHDRAWN to the peer
where it is a grantee (R95). -/
def State.closeAperture (s : State) (d : Domain) (i : ApertureNo) : State :=
  let x := s.aperture d i
  let t := (s.setAperture d i { x with state := .closed }).postSystem d (.revokeDone d i x.generation)
  match x.grant with
  | some g =>
    if g.grantees.toPeer then t.postSystem d.peer (.apertureWithdrawn d i x.generation) else t
  | none => t

/-- While its port's teardown is under way, a unit whose records are all CLOSED reports so (R104). -/
def State.reportApertures (s : State) (d : Domain) : State :=
  if (s.apertureUnit d).clearing && s.allClosed d then
    (s.setApertureUnit d { s.apertureUnit d with clearing := false }).sendField d .apertures
  else s

/-- REVOKE_APERTURE or a teardown withdraws an OPEN aperture: it closes at once with users 0 and
drains otherwise (R94, R104). -/
def State.revoke (s : State) (d : Domain) (i : ApertureNo) : State :=
  let x := s.aperture d i
  if x.users = 0 then s.closeAperture d i else s.setAperture d i { x with state := .draining }

/-! ### Command cycle (R160–R163) -/

/-- The Port Command Unit writes an answer to the cycle it has latched and discards any other
(R161). -/
def State.writeAnswer (s : State) (p : Port) (a : Answer) : State :=
  let u := s.port p
  match u.latched with
  | some l =>
    if l.cycle = a.cycle then
      s.setPort p { u with res := a.reply.res, result := a.reply.code, latched := none }
    else s
  | none => s

def State.setHanded (s : State) (p : Port) (ls : List Latched) : State :=
  s.setWires { s.wires with handed := s.wires.handed.set p ls }

/-- What an owner makes of a command: from the port, the latched arguments and its state, its answer
and the state after. -/
abbrev Act := Port → Table Word 8 → State → Reply × State

/-- An owning block takes the oldest command handed over for a port, if it is the named one, and
answers it in the same happening (R160, R161); the answer is on its way to the Port Command Unit. -/
def ownerTakes (c : Command) (act : Act) (p : Port) (s : State) : State :=
  match s.wires.handed.get p with
  | l :: rest =>
    if commandOf l.code = some c ∧ !unitOwned l then
      let r := act p l.args (s.setHanded p rest)
      r.2.sendAnswer p ⟨l.cycle, r.1⟩
    else s
  | [] => s

/-- The Port Command Unit takes a command it owns itself and writes the answer in the same happening
(R160, R152 "the answer ACCEPTED is written in that happening"). DEDUCED, log entry 21, safe. -/
def unitTakes (picks : Latched → Bool) (act : Act) (p : Port) (s : State) : State :=
  match s.wires.handed.get p with
  | l :: rest =>
    if picks l ∧ unitOwned l then
      let r := act p l.args (s.setHanded p rest)
      r.2.writeAnswer p ⟨l.cycle, r.1⟩
    else s
  | [] => s

/-- The answer of the Port Command Unit to an aperture command that names neither domain (R163). -/
def noUnitAct : Act := fun p _ s =>
  if s.online p then (.plain .badAperture, s) else (.plain .notOnline, s)

/-- An aperture command: taken by the Aperture Unit of the named domain, or by the Port Command
Unit when it names none (R90, R163). -/
def apertureTakes (c : Command) (act : Domain → Act) (p : Port) (s : State) : State :=
  match s.wires.handed.get p with
  | l :: _ =>
    if commandOf l.code = some c then
      match domainArg (l.args.row 0) with
      | some d => ownerTakes c (act d) p s
      | none => unitTakes (fun _ => true) noUnitAct p s
    else s
  | [] => s

/-- The first three checks of R3: ONLINE, a channel number, and where asked the owner. -/
def channelCheck (s : State) (p : Port) (arg : Word) (needsOwner : Bool) :
    Except ResultCode ChannelNo :=
  if !s.online p then .error .notOnline
  else
    match channelArg arg with
    | none => .error .badChannel
    | some ch =>
      if needsOwner && (s.channel ch).owner ≠ some p then .error .notOwner else .ok ch

/-! ### Teardown (R154–R157) -/

def State.setDirections (s : State) (p : Port) (x : Directions) : State :=
  s.setWires { s.wires with directions := s.wires.directions.set p x }

/-- The start of a teardown of port p: session CLEARING with no completion field held, PEER_LOST to
the peer, and the directions to the blocks; for cause RESET also to the Bus Master (R154, R155). -/
def State.startTeardown (s : State) (p : Port) (cause : TeardownCause) : State :=
  let t := s.setPort p { s.port p with session := .clearing ⟨cause, false, false, false, false⟩ }
  let u := t.postSystem p.peer .peerLost
  let x := u.wires.directions.get p
  u.setDirections p
    { channelTable := true, triggerUnit := true, apertureUnit := true, noticeUnit := true
      abandon := match cause with
        | .reset => x.abandon + 1
        | .detach => x.abandon }

/-! ### Free values (R117) -/

/-- An OKAY response shaped to an entry of `n` bytes: the bytes it carries, cut or filled up to `n`;
the bytes it does not carry are free values (R117, log entry 7). -/
def shapeData (n : Nat) (data : List Byte) (count : Nat) : List Byte :=
  data.take n ++ (List.range (n - data.length)).map fun i => Config.freeByte (count + i)

end Sys2Proof.Machine
end

