-- ==== Sys2Proof/Machine/ChannelTable.lean ====
section
/-! DEFINITION. The Channel Table (Chapters 1 and 7): its commands, the engines' messages and
reports, link deliveries, and its part of a teardown. -/

namespace Sys2Proof.Machine

abbrev Result := Host.Outcome State Fault Refusal

/-! ### CLAIM, RELEASE, LOAD, READ_CHANNEL, QUERY_TABLE -/

/-- R4. -/
def claimAct : Act := fun p a s =>
  match channelCheck s p (a.row 0) false with
  | .error r => (.plain r, s)
  | .ok ch =>
    if (s.channel ch).state = .free then
      (.plain .ok, s.writeChannel ch { Channel.free with owner := some p, state := .idle })
    else (.plain .owned, s)

def execClaim (p : Port) (s : State) : Result := .next (ownerTakes .claim claimAct p s)

/-- R5, R47. -/
def releaseAct : Act := fun p a s =>
  match channelCheck s p (a.row 0) true with
  | .error r => (.plain r, s)
  | .ok ch =>
    match (s.channel ch).state with
    | .idle => (.plain .ok, s.freeChannel ch)
    | .ready => (.plain .ok, s.freeChannel ch)
    | .faulted => (.plain .ok, s.freeChannel ch)
    | _ => (.plain .wrongState, s)

def execRelease (p : Port) (s : State) : Result := .next (ownerTakes .release releaseAct p s)

/-- LOAD is taken in IDLE, in FAULTED, and in READY with no trigger (R6). -/
def Channel.takesLoad (c : Channel) : Bool :=
  match c.state with
  | .idle => true
  | .faulted => true
  | .ready => c.credit = 0 && !c.linePending
  | _ => false

/-- The record after a LOAD that passes all checks (R10). -/
def Channel.withProgram (c : Channel) (prog : Program) : Channel :=
  { c with
    state := .ready
    loaded := some ⟨prog, prog.src.start, prog.dst.start, prog.count⟩
    credit := 0
    fault := none }

/-- R6, R7, R10; the mapped line then takes a standing request (R40). -/
def loadAct : Act := fun p a s =>
  match channelCheck s p (a.row 0) true with
  | .error r => (.plain r, s)
  | .ok ch =>
    if (s.channel ch).takesLoad then
      match loadProgram a with
      | .error n => (.badField n, s)
      | .ok prog =>
        (.plain .ok, (s.writeChannel ch ((s.channel ch).withProgram prog)).channelAble ch)
    else (.plain .wrongState, s)

def execLoad (p : Port) (s : State) : Result := .next (ownerTakes .load loadAct p s)

/-- R12, R165: checks 1 and 2 of R3, then the view. -/
def readChannelAct : Act := fun p a s =>
  match channelCheck s p (a.row 0) false with
  | .error r => (.plain r, s)
  | .ok ch =>
    if 2 < (a.row 1).toNat then (.badField 1, s)
    else (⟨.ok, channelView p (a.row 1).toNat (s.channel ch)⟩, s)

def execReadChannel (p : Port) (s : State) : Result :=
  .next (ownerTakes .readChannel readChannelAct p s)

/-- R13. -/
def queryTableAct : Act := fun p _ s =>
  if s.online p then (⟨.ok, tableView p s.channels⟩, s) else (.plain .notOnline, s)

def execQueryTable (p : Port) (s : State) : Result :=
  .next (ownerTakes .queryTable queryTableAct p s)

/-! ### ABORT and RESUME (Chapter 7) -/

/-- ABORT in READY: the channel leaves its queue, credit and pending line are discarded, the line
returns from PENDING to WAITING without ACK and is not taken again (R128). -/
def State.abortReady (s : State) (ch : ChannelNo) : State :=
  let c := s.channel ch
  let t := match c.mappedLine with
    | some l =>
      if c.linePending ∧ (s.line l).state = LineState.pending then
        s.setLine l { s.line l with state := LineState.waiting }
      else s
    | none => s
  t.writeChannel ch { c with state := .idle, credit := 0, linePending := false }

/-- Table 7-2, R127–R129. -/
def abortAct : Act := fun p a s =>
  match channelCheck s p (a.row 0) true with
  | .error r => (.plain r, s)
  | .ok ch =>
    let c := s.channel ch
    match c.state with
    | .free => (.plain .notOwner, s)
    | .idle => (.plain .ok, s)
    | .ready => (.plain .ok, s.abortReady ch)
    | .running =>
      (.plain .accepted, (s.writeChannel ch { c with state := .stopping }).sendCause ⟨ch, .abort⟩)
    | .stopping => (.plain .accepted, s)
    | .posting => (.plain .ok, s.writeChannel ch { c with afterState := some .idle, credit := 0 })
    | .faulted => (.plain .ok, s.writeChannel ch { c with state := .idle })

def execAbort (p : Port) (s : State) : Result := .next (ownerTakes .abort abortAct p s)

/-- R131, R132: the checks over the remaining program, then READY at the current progress with
credit 0 and line pending no; the mapped line then takes a standing request (R40). -/
def resumeAct : Act := fun p a s =>
  match channelCheck s p (a.row 0) true with
  | .error r => (.plain r, s)
  | .ok ch =>
    let c := s.channel ch
    match c.state, c.loaded with
    | .faulted, some ld =>
      match rangeCheck ld.program ld.curSrc ld.curDst ld.remaining with
      | some n => (.badField n, s)
      | none =>
        (.plain .ok,
          (s.writeChannel ch { c with state := .ready, credit := 0, linePending := false }).channelAble
            ch)
    | _, _ => (.plain .wrongState, s)

def execResume (p : Port) (s : State) : Result := .next (ownerTakes .resume resumeAct p s)

/-! ### Messages and reports from the engines (R50, R66, R73) -/

/-- The oldest hand-off from an engine about a channel, taken from those under way (R50). -/
def State.takeReport (s : State) (ch : ChannelNo) : Option (ReportBody × State) :=
  match takeFirst (fun r => r.channel = ch) s.wires.reports with
  | some (r, rest) => some (r.body, s.setWires { s.wires with reports := rest })
  | none => none

/-- The Channel Table takes the message that the channel has faulted: a RUNNING channel becomes
STOPPING, any other record is not changed (R66). -/
def execFaultMessage (ch : ChannelNo) (s : State) : Result :=
  match s.takeReport ch with
  | some (.faulted, t) =>
    let c := t.channel ch
    if c.state = .running then .next (t.writeChannel ch { c with state := .stopping }) else .next t
  | _ => .next s

/-- The notice of a unit end, from the remaining count just written and the policy (R17). -/
def unitNotice (ch : ChannelNo) (policy : NoticePolicy) (remaining done credit : Nat)
    (origin : Origin) : Option ChannelNotice :=
  match policy with
  | .silent => none
  | .atEnd => if remaining = 0 then some (.channelDone ch remaining done origin credit) else none
  | .eachUnit =>
    if remaining = 0 then some (.channelDone ch remaining done origin credit)
    else some (.unitDone ch remaining done origin)

/-- The link condition holds at a unit end that leaves `remaining` elements (R18). -/
def LinkCondition.fires (k : LinkCondition) (remaining : Nat) : Bool :=
  match k with
  | .eachUnit => true
  | .atEnd => remaining = 0

/-- The progress of a report: current addresses, and elements remaining less those done (R16,
R22). -/
def Loaded.advance (ld : Loaded) (r : Progress) : Loaded :=
  { ld with curSrc := r.src, curDst := r.dst, remaining := ld.remaining - r.done }

/-- The line that served the unit is named to the Line Map in an acknowledgement (R16). -/
def State.acknowledge (s : State) (ch : ChannelNo) : State :=
  let c := s.channel ch
  match c.origin, c.servedLine with
  | some .line, some l => s.sendAck ⟨l, ch⟩
  | _, _ => s

/-- The line that served the unit is named to the Line Map for its return (R22). -/
def State.returnLine (s : State) (ch : ChannelNo) : State :=
  let c := s.channel ch
  match c.origin, c.servedLine with
  | some .line, some l => s.sendReturn ⟨l, ch⟩
  | _, _ => s

/-- The link of a unit end (R18): one delivery to the target, with source channel and owner. -/
def State.fireLink (s : State) (ch : ChannelNo) (prog : Program) (remaining : Nat) : State :=
  match prog.link, (s.channel ch).owner with
  | some k, some p => if k.condition.fires remaining then s.sendLink ⟨ch, p, k.target⟩ else s
  | _, _ => s

/-- A unit-end report at a RUNNING channel (R16–R19). -/
def State.unitEnd (s : State) (ch : ChannelNo) (r : Progress) (origin : Origin) : State :=
  let c := s.channel ch
  match c.loaded with
  | none => s
  | some ld =>
    let left := ld.advance r
    let t := s.writeChannel ch { c with loaded := some left }
    let u := (t.acknowledge ch).fireLink ch ld.program left.remaining
    u.concludeUnit ch
      (unitNotice ch ld.program.policy left.remaining r.done c.credit origin)
      (if left.remaining = 0 then .idle else .ready)

/-- Cause, next state and notice of a stop that is not a teardown's (R23). -/
def stopNotice (ch : ChannelNo) (c : StopCause) (remaining done : Nat) (origin : Origin) :
    ChannelNotice × AfterState :=
  match c with
  | .fault r => (.fault ch r, .faulted)
  | _ => (.aborted ch remaining done origin, .idle)

/-- The record a stop report leaves before the channel's next state: progress written, credit
discarded, pending line dropped, and for a fault its record (R22, R23, R120). -/
def Channel.stopped (c : Channel) (ld : Loaded) (cause : StopCause) : Channel :=
  { c with
    loaded := some ld
    credit := 0
    linePending := false
    fault := match cause with
      | .fault r => some r
      | _ => c.fault }

/-- The channel's owner is being torn down at the Channel Table (R23). -/
def State.tearingDown (s : State) (ch : ChannelNo) : Bool :=
  match (s.channel ch).owner with
  | some p => s.tableClearing.get p
  | none => false

/-- The owner's teardown ends at this channel: FREE, no notice, and the owner's report when it was
the last (R23, R27). -/
def State.freeStopped (s : State) (ch : ChannelNo) : State :=
  match (s.channel ch).owner with
  | some p => (s.freeChannel ch).reportChannels p
  | none => s.freeChannel ch

/-- A stop report (R22, R23), or a unit-end report taken as one (R73). The direction to drop a
pending line is taken by the Line Map as LINE_PENDING_DROP, the return as LINE_RETURN. -/
def State.stopUnit (s : State) (ch : ChannelNo) (r : Progress) (cause : StopCause) : State :=
  if cause = .teardown ∨ s.tearingDown ch then s.freeStopped ch
  else
    let c := s.channel ch
    match c.loaded with
    | none => s
    | some ld =>
      let left := ld.advance r
      let t := (s.returnLine ch).writeChannel ch (c.stopped left cause)
      let n := stopNotice ch cause left.remaining r.done (c.origin.getD .credit)
      t.concludeUnit ch (some n.1) n.2

/-- A unit-end report at a RUNNING channel is taken under R16–R19; at a STOPPING channel it is the
channel's stop report, with the cause the Channel Table sent (R73). -/
def execUnitEndReport (ch : ChannelNo) (s : State) : Result :=
  match s.takeReport ch with
  | some (.unitEnd r origin, t) =>
    match (t.channel ch).state with
    | .running => .next (t.unitEnd ch r origin)
    | .stopping => .next (t.stopUnit ch r .abort)
    | _ => .next t
  | _ => .next s

/-- A stop report is taken at a STOPPING channel (R22, R23): the fault message or the command that made
it STOPPING is taken before it (R50, R66, R68, R69), so no other state can meet one (log entry 31). -/
def execStopReport (ch : ChannelNo) (s : State) : Result :=
  match s.takeReport ch with
  | some (.stop r cause, t) =>
    if (t.channel ch).state = .stopping then .next (t.stopUnit ch r cause) else .next t
  | _ => .next s

/-! ### Link deliveries (R24, R25) -/

/-- The three checks of R24 in order: the reason of the refusal, or none when accepted. -/
def linkCheck (c : Channel) (owner : Port) : Option RefusalReason :=
  if c.owner ≠ some owner then some .notOwner
  else if !c.canTake then some .wrongState
  else if Config.creditMax ≤ c.credit then some .creditFull
  else none

/-- A delivery is judged at the target's record (R24). A refusal is posted to the source's owner, and
its notice is discarded when that owner is not ONLINE as the delivery is judged (R25). -/
def State.deliverLink (s : State) (w : LinkWord) : State :=
  let c := s.channel w.target
  match linkCheck c w.owner with
  | some reason =>
    if s.online w.owner then s.postSystem w.owner (.linkRefused w.source w.target reason) else s
  | none => s.writeChannel w.target { c with credit := c.credit + 1 }

def execLinkDelivery (position : Nat) (s : State) : Result :=
  match takeAt position s.wires.links with
  | some (w, rest) => .next ((s.setWires { s.wires with links := rest }).deliverLink w)
  | none => .next s

/-! ### Teardown at the Channel Table (R26, R27) -/

/-- What the start of a teardown of port p does at one channel (R26). -/
def State.tearDownChannel (s : State) (p : Port) (ch : ChannelNo) : State :=
  let c := s.channel ch
  if c.owner = some p then
    match c.state with
    | .running =>
      (s.writeChannel ch { c with state := .stopping }).sendCause ⟨ch, .teardown⟩
    | .stopping => s.sendCause ⟨ch, .teardown⟩
    | _ => s.freeChannel ch
  else s

def execChannelTableTeardown (p : Port) (s : State) : Result :=
  let x := s.wires.directions.get p
  if x.channelTable then
    let t := (s.setDirections p { x with channelTable := false }).setTableClearing p true
    .next (((List.finRange 64).foldl (fun u ch => u.tearDownChannel p ch) t).reportChannels p)
  else .next s

end Sys2Proof.Machine
end

