-- ==== Sys2Proof/Machine/TriggerUnit.lean ====
section
/-! DEFINITION. The Trigger Unit (Chapter 2): START, the run queues and the dispatch arbiter, the
Line Map with its commands, and its part of a teardown. -/

namespace Sys2Proof.Machine

/-! ### START (R28, R29) -/

def startAct : Act := fun p a s =>
  match channelCheck s p (a.row 0) true with
  | .error r => (.plain r, s)
  | .ok ch =>
    let c := s.channel ch
    if !c.canTake then (.plain .wrongState, s)
    else if Config.creditMax ≤ c.credit then (.plain .creditFull, s)
    else (.plain .ok, s.writeChannel ch { c with credit := c.credit + 1 })

def execStart (p : Port) (s : State) : Result := .next (ownerTakes .start startAct p s)

/-! ### Dispatch (R32–R35, R51, R76) -/

/-- Table 2-1; none when every queue is empty. -/
def TriggerUnit.choose (t : TriggerUnit) : Option SchedClass :=
  if t.bulkSkip = Config.skipMax ∧ t.bulk ≠ [] then some .bulk
  else if t.normalSkip = Config.skipMax ∧ t.normal ≠ [] then some .normal
  else if t.urgent ≠ [] then some .urgent
  else if t.normal ≠ [] then some .normal
  else if t.bulk ≠ [] then some .bulk
  else none

def raiseSkip (n : Nat) : Nat := min Config.skipMax (n + 1)

/-- The skip counters after a dispatch of class `k`, with the dispatched channel already removed
(R34). -/
def TriggerUnit.countSkips (t : TriggerUnit) (k : SchedClass) : TriggerUnit :=
  { t with
    normalSkip :=
      match k with
      | .normal => 0
      | .urgent => if t.normal.isEmpty then t.normalSkip else raiseSkip t.normalSkip
      | .bulk => t.normalSkip
    bulkSkip :=
      match k with
      | .bulk => 0
      | _ => if t.bulk.isEmpty then t.bulkSkip else raiseSkip t.bulkSkip }.settle

/-- The lowest-numbered IDLE engine (R32). -/
def State.idleEngine (s : State) : Option EngineNo :=
  (List.finRange 4).find? fun e =>
    match (s.engine e).phase with
    | .idle => true
    | _ => false

/-- The channel record at dispatch: a pending line gives origin LINE and is cleared, else one credit
is spent (R15, R35). -/
def Channel.dispatched (c : Channel) : Channel :=
  if c.linePending then
    { c with
      state := .running, origin := some .line, servedLine := c.mappedLine, linePending := false }
  else
    { c with state := .running, origin := some .credit, servedLine := none, credit := c.credit - 1 }

/-- What the engine takes from the record after the dispatch (R51, Table 3-3). -/
def workOf (ch : ChannelNo) (owner : Port) (ld : Loaded) (origin : Origin) : Work where
  channel := ch
  owner := owner
  size := ld.program.size
  src := ⟨ld.program.src.domain, ld.program.src.step, ld.curSrc⟩
  dst := ⟨ld.program.dst.domain, ld.program.dst.step, ld.curDst⟩
  readAhead := ld.program.readAhead
  origin := origin
  elements := unitSize ld.program.mode ld.remaining
  readPos := 0
  writePos := 0
  confirmed := 0
  readBytes := 0
  room := false

/-- The mapped line of a dispatch with origin LINE goes from PENDING to SERVING (R35, R41). -/
def State.serveLine (s : State) (c : Channel) : State :=
  match c.linePending, c.mappedLine with
  | true, some l => s.setLine l { s.line l with state := .serving }
  | _, _ => s

/-- An IDLE engine takes a channel: it becomes RUNNING with its channel copy (R51), the pool sets its
limit (R76), and stop causes sent for an earlier unit of the channel have been taken before, and
ignored, in the order of R50 (log entry 18). -/
def State.startUnit (s : State) (e : EngineNo) (w : Work) : State :=
  let t := s.setWires
    { s.wires with causes := s.wires.causes.filter (fun x => x.channel != w.channel) }
  (t.setPoolEngine e { t.poolEngine e with limit := some w.readAhead.limit, request := .none }).setEngine
    e { Engine.idle with phase := .running w }

/-- One dispatch: class, head channel, lowest-numbered IDLE engine, skip counters, record, line and
engine, in one happening (R32–R35). -/
def State.dispatchHead (s : State) (e : EngineNo) (k : SchedClass) (ch : ChannelNo)
    (rest : List ChannelNo) : State :=
  let c := s.channel ch
  match c.owner, c.loaded with
  | some p, some ld =>
    let d := c.dispatched
    let t := (s.setTrigger ((s.trigger.setQueue k rest).countSkips k)).serveLine c
    let u := (t.setChannel ch d).startUnit e (workOf ch p ld (d.origin.getD .credit))
    u.channelAble ch
  | _, _ => s

def execDispatch (s : State) : Result :=
  match s.idleEngine, s.trigger.choose with
  | some e, some k =>
    match s.trigger.queue k with
    | ch :: rest => .next (s.dispatchHead e k ch rest)
    | [] => .next s
  | _, _ => .next s

/-- The Trigger Unit takes the word that a channel released from parking has become eligible: the
channel, if it is eligible and stands in no queue, joins the tail of its class's queue (R30, R144).
The hand-off is under way exactly in that case, so it needs no record of its own (log entry 14). -/
def execRunQueueJoin (ch : ChannelNo) (s : State) : Result :=
  if (s.channel ch).eligible then .next (s.joinQueue ch) else .next s

/-! ### Request lines (R39–R44) -/

def State.setReq (s : State) (l : LineNo) (b : Bool) : State := { s with req := s.req.put l b }

/-- REQ asserted: a WAITING line takes a trigger if its channel can take one; every other state is
not changed (R39, R40). -/
def execReqAsserted (l : LineNo) (s : State) : Result := .next ((s.setReq l true).takeTrigger l)

/-- REQ deasserted: an ACKING line returns to WAITING and deasserts ACK; every other state is not
changed (R39, R43). -/
def execReqDeasserted (l : LineNo) (s : State) : Result :=
  let t := s.setReq l false
  let x := t.line l
  if x.state = .acking then .next (t.setLine l { x with state := .waiting }) else .next t

/-- The Line Map is told that the line's channel can take a trigger; a WAITING line takes one if REQ
is asserted (R40, R144). Log entry 15. -/
def execLineChannelAble (l : LineNo) (s : State) : Result := .next (s.takeTrigger l)

/-- The oldest acknowledgement or return under way for a line. No rule orders two of them for one line;
that the oldest is taken first is the model's choice. DESIGN CHOICE, log entry 42, unsafe for the order. -/
def takeLineWord (l : LineNo) (ws : List LineWord) : Option (LineWord × List LineWord) :=
  takeFirst (fun w => w.line = l) ws

/-- An acknowledgement is acted on when the named line is SERVING for the named channel: ACK is
asserted, and when REQ is already deasserted ACK is a single pulse and the line returns to WAITING
(R42). -/
def State.acknowledgeLine (s : State) (w : LineWord) : State :=
  let x := s.line w.line
  match x.mapping with
  | some m =>
    if x.state = .serving ∧ m.channel = w.channel then
      s.setLine w.line
        { x with
          state := if s.req.row w.line then .acking else .waiting
          acks := x.acks + 1 }
    else s
  | none => s

def execLineAcknowledge (l : LineNo) (s : State) : Result :=
  match takeLineWord l s.wires.acks with
  | some (w, rest) => .next ((s.setWires { s.wires with acks := rest }).acknowledgeLine w)
  | none => .next s

/-- A return is acted on when the line is SERVING for that channel: WAITING without ACK, and R40 at
once (R44, R41). -/
def State.returnServing (s : State) (w : LineWord) : State :=
  let x := s.line w.line
  match x.mapping with
  | some m =>
    if x.state = .serving ∧ m.channel = w.channel then
      (s.setLine w.line { x with state := .waiting }).takeTrigger w.line
    else s
  | none => s

def execLineReturn (l : LineNo) (s : State) : Result :=
  match takeLineWord l s.wires.returns with
  | some (w, rest) => .next ((s.setWires { s.wires with returns := rest }).returnServing w)
  | none => .next s

/-- The Line Map takes the direction to drop a pending trigger: the PENDING line returns to WAITING
without ACK, and R40 applies at once (R41). The direction is under way exactly while the line is
PENDING and its channel's line pending is no, so it needs no record of its own (log entry 16). -/
def execLinePendingDrop (l : LineNo) (s : State) : Result :=
  let x := s.line l
  match x.mapping with
  | some m =>
    if x.state = .pending ∧ (s.channel m.channel).linePending = false then
      .next ((s.setLine l { x with state := .waiting }).takeTrigger l)
    else .next s
  | none => .next s

/-! ### MAP_LINE and UNMAP_LINE (R45, R46) -/

/-- R45: six checks in order, then the mapping; a standing request is taken in the same happening. -/
def mapLineAct : Act := fun p a s =>
  if !s.online p then (.plain .notOnline, s)
  else
    match lineArg (a.row 0) with
    | none => (.plain .badLine, s)
    | some l =>
      match channelArg (a.row 1) with
      | none => (.plain .badChannel, s)
      | some ch =>
        let c := s.channel ch
        if c.owner ≠ some p then (.plain .notOwner, s)
        else if (s.line l).state ≠ .unmapped then (.plain .lineTaken, s)
        else if c.mappedLine.isSome then (.plain .lineTaken, s)
        else
          let t := s.setLine l { s.line l with state := .waiting, mapping := some ⟨ch, p⟩ }
          (.plain .ok, (t.setChannel ch { c with mappedLine := some l }).takeTrigger l)

def execMapLine (p : Port) (s : State) : Result := .next (ownerTakes .mapLine mapLineAct p s)

/-- R46: three checks in order, then the unmapping. -/
def unmapLineAct : Act := fun p a s =>
  if !s.online p then (.plain .notOnline, s)
  else
    match lineArg (a.row 0) with
    | none => (.plain .badLine, s)
    | some l =>
      match (s.line l).mapping with
      | none => (.plain .notOwner, s)
      | some m => if m.port = p then (.plain .ok, s.unmap l) else (.plain .notOwner, s)

def execUnmapLine (p : Port) (s : State) : Result := .next (ownerTakes .unmapLine unmapLineAct p s)

/-! ### Teardown at the Trigger Unit (R48) -/

/-- A line whose mapping port is p goes UNMAPPED (R48). -/
def State.unmapOf (s : State) (p : Port) (l : LineNo) : State :=
  match (s.line l).mapping with
  | some m => if m.port = p then s.unmap l else s
  | none => s

/-- The channels that the Channel Table has freed leave the run queues, and R34 is applied (R48). -/
def State.dropFreed (s : State) : State :=
  let keep := fun ch => !((s.channel ch).state = .free)
  s.setTrigger
    { s.trigger with
      urgent := s.trigger.urgent.filter keep
      normal := s.trigger.normal.filter keep
      bulk := s.trigger.bulk.filter keep }.settle

def execTriggerUnitTeardown (p : Port) (s : State) : Result :=
  let x := s.wires.directions.get p
  if x.triggerUnit then
    let t := s.setDirections p { x with triggerUnit := false }
    .next ((((List.finRange 16).foldl (fun u l => u.unmapOf p l) t).dropFreed).sendField p .lines)
  else .next s

end Sys2Proof.Machine
end

