-- ==== Sys2Proof/Machine/Apertures.lean ====
section
/-! DEFINITION. The Aperture Units (Chapter 5): opening, revoking and querying apertures, admission,
ends of users, and their part of a teardown. -/

namespace Sys2Proof.Machine

/-- The first three checks of R90 for a command of the named domain: ONLINE, an index in 0–7, and for
OPEN_APERTURE and REVOKE_APERTURE the own domain. -/
def apertureCheck (s : State) (d : Domain) (p : Port) (arg : Word) (ownOnly : Bool) :
    Except ResultCode ApertureNo :=
  if !s.online p then .error .notOnline
  else
    match apertureArg arg with
    | none => .error .badAperture
    | some i => if ownOnly && d ≠ p then .error .notOwner else .ok i

/-- The record an opening leaves: the four fields, the next generation, OPEN (R92). -/
def Aperture.opened (x : Aperture) (g : Grant) : Aperture :=
  { x with state := .open, grant := some g, generation := x.generation + 1 }

/-- R92, after the checks of R90 and R91: the opened record, and APERTURE_OFFERED to a peer that is a
grantee. -/
def State.openApertureAt (s : State) (d : Domain) (i : ApertureNo) (g : Grant) : State :=
  let x := (s.aperture d i).opened g
  let t := s.setAperture d i x
  if g.grantees.toPeer then
    t.postSystem d.peer (.apertureOffered d i x.generation g.base g.pages g.rights)
  else t

/-- OPEN_APERTURE (R90–R92). -/
def openApertureAct (d : Domain) : Act := fun p a s =>
  match apertureCheck s d p (a.row 1) true with
  | .error r => (.plain r, s)
  | .ok i =>
    if (s.aperture d i).state ≠ .closed then (.plain .inUse, s)
    else
      match grantArg a with
      | .error n => (.badField n, s)
      | .ok g =>
        (.withRes1 .ok ((s.aperture d i).generation + 1).toNat, s.openApertureAt d i g)

def execOpenAperture (p : Port) (s : State) : Result :=
  .next (apertureTakes .openAperture openApertureAct p s)

/-- REVOKE_APERTURE (R90, R94): OK when the aperture closes at once, ACCEPTED when it drains. -/
def revokeApertureAct (d : Domain) : Act := fun p a s =>
  match apertureCheck s d p (a.row 1) true with
  | .error r => (.plain r, s)
  | .ok i =>
    let x := s.aperture d i
    if x.state ≠ .open then (.plain .wrongState, s)
    else
      (.withRes1 (if x.users = 0 then .ok else .accepted) x.generation.toNat, s.revoke d i)

def execRevokeAperture (p : Port) (s : State) : Result :=
  .next (apertureTakes .revokeAperture revokeApertureAct p s)

/-- QUERY_APERTURE (R96). -/
def queryApertureAct (d : Domain) : Act := fun p a s =>
  match apertureCheck s d p (a.row 1) false with
  | .error r => (.plain r, s)
  | .ok i =>
    let x := s.aperture d i
    (⟨.ok, if d = p then apertureOwnView x else aperturePeerView x⟩, s)

def execQueryAperture (p : Port) (s : State) : Result :=
  .next (apertureTakes .queryAperture queryApertureAct p s)

/-! ### Admission (R97, R98) -/

/-- The lowest-indexed record in a state that qualifies for a transaction. -/
def State.qualifying (s : State) (d : Domain) (st : ApertureState) (dir : Direction)
    (address : Word) (length : Nat) (p : Port) : Option ApertureNo :=
  (List.finRange 8).find? fun i =>
    (s.aperture d i).state = st && (s.aperture d i).qualifies d dir address length p

/-- The decision on an admission request (R97, R98). -/
def State.decide (s : State) (d : Domain) (dir : Direction) (address : Word) (length : Nat)
    (p : Port) : AdmissionReply :=
  match s.qualifying d .open dir address length p with
  | some i => .admitted i
  | none =>
    match s.qualifying d .draining dir address length p with
    | some _ => .refused .revoked
    | none => .refused .denied

def State.addUser (s : State) (d : Domain) (i : ApertureNo) : State :=
  let x := s.aperture d i
  s.setAperture d i { x with users := x.users + 1 }

def State.setAdmissionReply (s : State) (d : Domain) (r : Option AdmissionReply) : State :=
  s.setWires { s.wires with admissions := s.wires.admissions.set d r }

def State.setApertureWords (s : State) (d : Domain) (ws : List ApertureWord) : State :=
  s.setWires { s.wires with aperture := s.wires.aperture.set d ws }

/-- The Aperture Unit takes the oldest word from its Bus Master when that is an admission request: it
admits the transaction, which raises one users count, or refuses it (R97, R98, R100). -/
def execAdmissionRequest (d : Domain) (s : State) : Result :=
  match s.wires.aperture.get d with
  | .request dir address length p :: rest =>
    let t := s.setApertureWords d rest
    let r := t.decide d dir address length p
    match r with
    | .admitted i => .next ((t.addUser d i).setAdmissionReply d (some r))
    | .refused _ => .next (t.setAdmissionReply d (some r))
  | _ => .next s

/-! ### Ends of users (R101–R103) -/

/-- An end lowers a users count, and a DRAINING aperture at 0 closes in the same happening (R103); a
unit in a teardown then reports when all are CLOSED (R104). -/
def State.endUser (s : State) (d : Domain) (i : ApertureNo) : State :=
  let x := s.aperture d i
  let t := s.setAperture d i { x with users := x.users - 1 }
  if x.state = .draining ∧ x.users - 1 = 0 then (t.closeAperture d i).reportApertures d else t

/-- The Aperture Unit takes the oldest word from its Bus Master when that is an end (R100, R103). -/
def execUserEnd (d : Domain) (s : State) : Result :=
  match s.wires.aperture.get d with
  | .userEnd i :: rest => .next ((s.setApertureWords d rest).endUser d i)
  | _ => .next s

/-! ### Teardown at an Aperture Unit (R104) -/

def State.revokeIfOpen (s : State) (d : Domain) (i : ApertureNo) : State :=
  if (s.aperture d i).state = .open then s.revoke d i else s

def execApertureUnitTeardown (p : Port) (s : State) : Result :=
  let x := s.wires.directions.get p
  if x.apertureUnit then
    let t := s.setDirections p { x with apertureUnit := false }
    let u := t.setApertureUnit p { t.apertureUnit p with clearing := true }
    .next (((List.finRange 8).foldl (fun v i => v.revokeIfOpen p i) u).reportApertures p)
  else .next s

end Sys2Proof.Machine
end

