-- ==== Sys2Proof/Machine/BusMasters.lean ====
section
/-! DEFINITION. The Domain Bus Masters (Chapter 6): the issue arbiter, admission answers, responses,
the response limit, recovery, CLEAR_BUS, and the abandonment of a bus at a reset teardown. -/

namespace Sys2Proof.Machine

/-! ### SET_RESPONSE_LIMIT and CLEAR_BUS (R112, R116) -/

def setResponseLimitAct : Act := fun p a s =>
  if !s.online p then (.plain .notOnline, s)
  else if Config.responseLimitMax < (a.row 0).toNat then (.badField 1, s)
  else
    let m := s.master p
    (.withRes1 .ok m.limit, s.setMaster p { m with limit := (a.row 0).toNat })

def execSetResponseLimit (p : Port) (s : State) : Result :=
  .next (ownerTakes .setResponseLimit setResponseLimitAct p s)

/-- The ends of dropped or abandoned entries, sent in list order (R116, R118). -/
def State.endEntries (s : State) (d : Domain) (es : List BusEntry) : State :=
  es.foldl (fun t x => t.sendAperture d (.userEnd x.aperture)) s

/-- The master with an empty list: OPEN, stale count 0 (R116, R118). -/
def BusMaster.emptied (m : BusMaster) : BusMaster :=
  { m with state := .open, list := [], stale := 0 }

def clearBusAct : Act := fun p _ s =>
  if !s.online p then (.plain .notOnline, s)
  else
    let m := s.master p
    match m.state with
    | .open => (.withRes1 .ok 0, s)
    | .recovering =>
      (.withRes1 .ok m.list.length, (s.endEntries p m.list).setMaster p m.emptied)

def execClearBus (p : Port) (s : State) : Result := .next (ownerTakes .clearBus clearBusAct p s)

/-! ### Taking an offer (R109) -/

/-- The four engines in round-robin order, beginning with the one after the last served. -/
def roundRobin (last : EngineNo) : List EngineNo := [last + 1, last + 2, last + 3, last]

/-- The first engine with an offer standing at the master of `d`, with its offer. -/
def State.nextOffer (s : State) (d : Domain) : Option (EngineNo × Txn) :=
  (roundRobin (s.master d).lastServed).findSome? fun e =>
    ((s.engine e).offers.get d).map fun t => (e, t)

/-- Port that owns the channel an engine serves, from its channel copy (R51, R109). -/
def Engine.owner (g : Engine) : Port :=
  match g.phase with
  | .running w => w.owner
  | .stopping w _ => w.owner
  | .idle => .a

/-- OPEN, fewer than 16 entries and no admission in progress (R109). -/
def BusMaster.readyToTake (m : BusMaster) : Bool :=
  m.state = .open && m.list.length < Config.busPlaces && m.admission.isNone

/-- The offer becomes the Bus Master's, its engine last served, and the admission request is on its
way to the Aperture Unit (R109). -/
def State.take (s : State) (d : Domain) (e : EngineNo) (t : Txn) : State :=
  let g := s.engine e
  let m := s.master d
  let a := s.setEngine e { g with admission := g.admission.set d (some t) }
  let b := a.setMaster d
    { m with lastServed := e, admission := some ⟨e, t, g.owner, false⟩ }
  b.sendAperture d (.request t.dir t.address t.length g.owner)

def execTakeOffer (d : Domain) (s : State) : Result :=
  if (s.master d).readyToTake then
    match s.nextOffer d with
    | some (e, t) => .next (s.take d e t)
    | none => .next s
  else .next s

/-! ### Admission answers (R110, R58) -/

/-- The engine's part of an issue: the transaction leaves admission, joins the outstanding list, and
the read or write position moves past it (R54, R58, R110). -/
def Work.issued (w : Work) (t : Txn) : Work :=
  match t.dir with
  | .read => { w with readPos := t.index + 1, room := false }
  | .write => { w with writePos := t.index + 1 }

/-- The transaction joins the tail of the outstanding list whatever its length. R54 says that an engine
has at most 16 on its list for each bus, but R108 frees a place of the bus list, for R109 to fill, before
the engine takes the response: with responses under way the list can pass 16. DEDUCED, log entry 43,
safe. -/
def Engine.issued (g : Engine) (d : Domain) (t : Txn) : Engine :=
  let h := { g with
    admission := g.admission.set d none
    outstanding := g.outstanding ++ [⟨d, t⟩] }
  match g.phase with
  | .running w => { h with phase := .running (w.issued t) }
  | .stopping w c => { h with phase := .stopping (w.issued t) c }
  | .idle => h

/-- The bytes a WRITE puts on the bus are those held in staging for it; a READ puts none (R56). -/
def State.busBytes (s : State) (e : EngineNo) (t : Txn) : List Byte :=
  match t.dir, (s.engine e).phase with
  | .write, .running w => s.writeBytes e w t
  | .write, .stopping w _ => s.writeBytes e w t
  | _, _ => []

/-- Deadline of a transaction issued now (R111): none while the response limit is 0. -/
def State.deadline (s : State) (d : Domain) : Option Nat :=
  if (s.master d).limit = 0 then none else some (s.clock + (s.master d).limit)

/-- An admitted transaction is issued (R110, first part). -/
def State.issue (s : State) (d : Domain) (a : Admission) (i : ApertureNo) : State :=
  let m := s.master d
  let x : BusEntry :=
    { status := .outstanding, engine := a.engine, txn := a.txn, aperture := i
      deadline := s.deadline d, bytes := s.busBytes a.engine a.txn }
  (s.setMaster d { m with list := m.list ++ [x], admission := none }).setEngine a.engine
    ((s.engine a.engine).issued d a.txn)

/-- The Bus Master takes its Aperture Unit's answer (R110): issued or referred back when OPEN and not
marked reset; otherwise an admitted transaction's user is released and the offer returned. -/
def execAdmissionAnswer (d : Domain) (s : State) : Result :=
  match s.wires.admissions.get d, (s.master d).admission with
  | some r, some a =>
    let t := s.setAdmissionReply d none
    let m := s.master d
    let cleared := t.setMaster d { m with admission := none }
    if m.state = .open ∧ a.marked = false then
      match r with
      | .admitted i => .next (t.issue d a i)
      | .refused k => .next (cleared.setOfferBack d a.engine (some (.refused k)))
    else
      match r with
      | .admitted i =>
        .next ((cleared.sendAperture d (.userEnd i)).setOfferBack d a.engine (some .returned))
      | .refused _ => .next (cleared.setOfferBack d a.engine (some .returned))
  | _, _ => .next s

/-! ### Responses (R108, R115, R117) -/

/-- The response as the engine named in the entry receives it: shaped to the entry, so that data
reaches reads alone and has the entry's length (R117). -/
def shapeReply (t : Txn) (r : BusReply) (count : Nat) : EngineWordBody :=
  match r, t.dir with
  | .error, _ => .error t
  | .okay _, .write => .okay t []
  | .okay data, .read => .okay t (shapeData t.length data count)

/-- How many free values a response draws (R117). -/
def freeDrawn (t : Txn) (r : BusReply) : Nat :=
  match r, t.dir with
  | .okay data, .read => t.length - data.length
  | _, _ => 0

def State.drawFree (s : State) (n : Nat) : State := { s with freeCount := s.freeCount + n }

/-- A response is taken as answering the oldest entry of the bus list: an OUTSTANDING entry's engine
is handed it, a STALE entry's is discarded and the master opens when none is left; either way the
entry's user ends. With an empty list it is discarded (R108, R115). -/
def execBusResponse (d : Domain) (r : BusReply) (s : State) : Result :=
  let m := s.master d
  match m.list with
  | [] => .next s
  | x :: rest =>
    let t := s.sendAperture d (.userEnd x.aperture)
    match x.status with
    | .outstanding =>
      .next
        (((t.setMaster d { m with list := rest }).sendEngineWord d
          ⟨x.engine, shapeReply x.txn r s.freeCount⟩).drawFree (freeDrawn x.txn r))
    | .stale =>
      .next (t.setMaster d
        { m with
          list := rest
          stale := m.stale - 1
          state := if m.stale - 1 = 0 then .open else m.state })

/-! ### Expiry (R113, R114) -/

/-- Every entry goes STALE with its timer stopped (R113, step 1). -/
def BusEntry.expire (x : BusEntry) : BusEntry := { x with status := .stale, deadline := none }

/-- The transactions of one engine on a bus list, oldest first. -/
def entriesOf (e : EngineNo) (es : List BusEntry) : List Txn :=
  (es.filter fun x => x.engine = e).map (·.txn)

/-- One failure to each engine with an entry; `kind` gives each engine's (R113, R118). -/
def State.failEngines (s : State) (d : Domain) (es : List BusEntry)
    (kind : EngineNo → FailureKind) : State :=
  (List.finRange 4).foldl
    (fun t e =>
      match entriesOf e es with
      | [] => t
      | ts => t.sendEngineWord d ⟨e, .failure (kind e) ts⟩) s

/-- The expiry of an entry's timer (R113): the clock stands at or after the deadline, every entry
goes STALE, the master RECOVERING, and the failures are on their way. -/
def State.expireBus (s : State) (d : Domain) (x : BusEntry) (deadline : Nat) : State :=
  let m := s.master d
  let t := ({ s with clock := max s.clock deadline } : State).setMaster d
    { m with state := .recovering, list := m.list.map .expire, stale := m.list.length }
  t.failEngines d m.list fun e =>
    if e = x.engine then .timeoutOwn x.txn else .timeoutCollateral

def execResponseLimitExpiry (d : Domain) (position : Nat) (s : State) : Result :=
  match (s.master d).list[position]? with
  | some x =>
    match x.status, x.deadline with
    | .outstanding, some deadline => .next (s.expireBus d x deadline)
    | _, _ => .next s
  | none => .next s

/-! ### Abandonment (R118) -/

/-- The OUTSTANDING entries of a list (R118 fails these; STALE entries have no engine to tell). -/
def outstandingOf (es : List BusEntry) : List BusEntry :=
  es.filter fun x => x.status = .outstanding

/-- The Bus Master abandons its bus in one happening: DOMAIN_RESET failures, the ends of every entry
in list order, an empty list, OPEN, and an admission in progress marked reset (R118). -/
def State.abandon (s : State) (d : Domain) : State :=
  let m := s.master d
  let t := s.failEngines d (outstandingOf m.list) fun _ => .domainReset
  (t.endEntries d m.list).setMaster d
    { m.emptied with admission := m.admission.map fun a => { a with marked := true } }

def execBusAbandon (d : Domain) (s : State) : Result :=
  let x := s.wires.directions.get d
  match x.abandon with
  | 0 => .next s
  | n + 1 => .next ((s.setDirections d { x with abandon := n }).abandon d)

end Sys2Proof.Machine
end

