-- ==== Sys2Proof/Machine/Engines.lean ====
section
/-! DEFINITION. The Transfer Engines (Chapter 3): admission refusals and returned offers, responses
and failures, and stop causes. What a response of each kind does while RUNNING and while STOPPING is
said here; the end of a unit and of a stop are operations of Ops.lean. -/

namespace Sys2Proof.Machine

/-! ### Refused and returned offers (R63, R110) -/

/-- The fault kind of a refusal (R63, R98). -/
def AdmissionKind.fault : AdmissionKind → FaultKind
  | .denied => .accessDenied
  | .revoked => .apertureRevoked

/-- The engine's transaction is no longer under admission at the master of `d`. -/
def Engine.endAdmission (g : Engine) (d : Domain) : Engine :=
  { g with admission := g.admission.set d none }

/-- An engine takes a refused offer: RUNNING it faults with the named kind (R63); STOPPING the
admission ends and the stop may end with it (R70, R72). -/
def State.refuseOffer (s : State) (d : Domain) (e : EngineNo) (k : AdmissionKind) (t : Txn) :
    State :=
  let g := s.engine e
  let u := s.setEngine e (g.endAdmission d)
  match g.phase with
  | .running w => u.takeFault e w (faultOf k.fault d t false)
  | .stopping _ _ => u.tryStopEnd e
  | .idle => u

def execAdmissionRefusal (d : Domain) (e : EngineNo) (s : State) : Result :=
  match (s.wires.offersBack.get d).row e, (s.engine e).admission.get d with
  | some (.refused k), some t => .next ((s.setOfferBack d e none).refuseOffer d e k t)
  | _, _ => .next s

/-- An engine takes back a returned offer: RUNNING it holds the transaction as a standing offer
again; STOPPING it drops it and its stop may end (R110, R72). -/
def State.takeBackOffer (s : State) (d : Domain) (e : EngineNo) : State :=
  (s.setEngine e ((s.engine e).endAdmission d)).tryStopEnd e

def execOfferReturned (d : Domain) (e : EngineNo) (s : State) : Result :=
  match (s.wires.offersBack.get d).row e with
  | some .returned => .next ((s.setOfferBack d e none).takeBackOffer d e)
  | _ => .next s

/-! ### Responses and failures (R54, R59, R60, R64, R65) -/

/-- The oldest word under way from the master of `d` to an engine, taken (R54). -/
def State.takeEngineWord (s : State) (d : Domain) (e : EngineNo) :
    Option (EngineWordBody × State) :=
  match takeFirst (fun w => w.engine = e) (s.wires.engineWords.get d) with
  | some (w, rest) =>
    some (w.body, s.setWires { s.wires with engineWords := s.wires.engineWords.set d rest })
  | none => none

/-- A transaction leaves the outstanding list (R54). -/
def Engine.drop (g : Engine) (d : Domain) (t : Txn) : Engine :=
  { g with outstanding := g.outstanding.filter fun x => !(x.domain = d && x.txn = t) }

/-- The transactions a failure names leave the outstanding list at once (R65). -/
def Engine.dropAll (g : Engine) (d : Domain) (ts : List Txn) : Engine :=
  { g with outstanding := g.outstanding.filter fun x => !(x.domain = d && ts.contains x.txn) }

/-- A STOPPING engine takes a response or a failure: the transactions leave its list, nothing else
changes, and the stop may end (R70, R72). -/
def State.absorb (s : State) (e : EngineNo) (g : Engine) : State := (s.setEngine e g).tryStopEnd e

/-- An OKAY read response (R59, R70). -/
def State.readOkay (s : State) (d : Domain) (e : EngineNo) (t : Txn) (data : List Byte) : State :=
  let g := s.engine e
  match g.phase with
  | .running w =>
    (s.storeRead e w t data).setEngine e
      { g.drop d t with
        phase := .running { w with readBytes := (t.first + t.elems) * w.size.bytes } }
  | .stopping _ _ => s.absorb e (g.drop d t)
  | .idle => s

def execReadResponseOkay (d : Domain) (e : EngineNo) (s : State) : Result :=
  match s.takeEngineWord d e with
  | some (.okay t data, u) => if t.dir = .read then .next (u.readOkay d e t data) else .next s
  | _ => .next s

/-- An OKAY write response: the elements covered are confirmed, the pool frees the lines wholly
confirmed in the same happening (R82), and the unit ends with the last element (R60, R61). -/
def State.writeOkay (s : State) (d : Domain) (e : EngineNo) (t : Txn) : State :=
  let g := s.engine e
  match g.phase with
  | .running w =>
    let w' := { w with confirmed := w.confirmed + t.elems }
    let u := (s.setEngine e { g.drop d t with phase := .running w' }).takeConfirmed e
    if w'.elements ≤ w'.confirmed then u.endUnit e w' else u
  | .stopping _ _ => s.absorb e (g.drop d t)
  | .idle => s

def execWriteResponseOkay (d : Domain) (e : EngineNo) (s : State) : Result :=
  match s.takeEngineWord d e with
  | some (.okay t _, u) => if t.dir = .write then .next (u.writeOkay d e t) else .next s
  | _ => .next s

/-- READ_ERROR for a read and WRITE_ERROR for a write (R64). -/
def errorKind (dir : Direction) : FaultKind :=
  match dir with
  | .read => .readError
  | .write => .writeError

/-- A response ERROR: the transaction leaves the list; a RUNNING engine faults (R64), a STOPPING one
changes nothing else (R70). -/
def State.responseError (s : State) (d : Domain) (e : EngineNo) (t : Txn) : State :=
  let g := s.engine e
  match g.phase with
  | .running w => (s.setEngine e (g.drop d t)).takeFault e w (faultOf (errorKind t.dir) d t false)
  | .stopping _ _ => s.absorb e (g.drop d t)
  | .idle => s

def execResponseError (d : Domain) (e : EngineNo) (s : State) : Result :=
  match s.takeEngineWord d e with
  | some (.error t, u) => .next (u.responseError d e t)
  | _ => .next s

/-- The fault record of a failure: for TIMEOUT own the expired transaction, else the oldest of those
failed (R65, R67). -/
def failureRecord (d : Domain) (k : FailureKind) (ts : List Txn) : Option FaultRecord :=
  match k, ts with
  | .timeoutOwn expired, _ => some (faultOf .timeout d expired false)
  | .timeoutCollateral, t :: _ => some (faultOf .timeout d t true)
  | .domainReset, t :: _ => some (faultOf .domainReset d t false)
  | _, [] => none

/-- A failure of an engine's transactions on one bus (R65, R70). -/
def State.failTxns (s : State) (d : Domain) (e : EngineNo) (k : FailureKind) (ts : List Txn) :
    State :=
  let g := s.engine e
  match g.phase, failureRecord d k ts with
  | .running w, some r => (s.setEngine e (g.dropAll d ts)).takeFault e w r
  | .stopping _ _, _ => s.absorb e (g.dropAll d ts)
  | _, _ => s

def execTransactionFailure (d : Domain) (e : EngineNo) (s : State) : Result :=
  match s.takeEngineWord d e with
  | some (.failure k ts, u) => .next (u.failTxns d e k ts)
  | _ => .next s

/-! ### Stop causes (R68, R69, R70) -/

/-- The oldest stop cause under way for a channel, taken when it is the named one (R50). -/
def State.takeCause (s : State) (ch : ChannelNo) (c : SentCause) : Option State :=
  match takeFirst (fun w => w.channel = ch) s.wires.causes with
  | some (w, rest) => if w.cause = c then some (s.setWires { s.wires with causes := rest }) else none
  | none => none

/-- Cause ABORT at the engine serving the channel: a RUNNING engine stops, a STOPPING one keeps its
cause, and where no engine serves the channel the cause is ignored (R50, R68, R70). -/
def State.causeAbort (s : State) (ch : ChannelNo) : State :=
  match s.servedBy ch with
  | some e =>
    match (s.engine e).phase with
    | .running w => s.beginStop e w .abort
    | _ => s
  | none => s

def execStopCauseAbort (ch : ChannelNo) (s : State) : Result :=
  match s.takeCause ch .abort with
  | some t => .next (t.causeAbort ch)
  | none => .next s

/-- Cause TEARDOWN at the engine serving the channel: a RUNNING engine stops, a STOPPING one replaces
its cause and loses a fault record, and where no engine serves the channel it is ignored (R69). -/
def State.causeTeardown (s : State) (ch : ChannelNo) : State :=
  match s.servedBy ch with
  | some e =>
    match (s.engine e).phase with
    | .running w => s.beginStop e w .teardown
    | .stopping w _ =>
      (s.setEngine e { s.engine e with phase := .stopping w .teardown }).tryStopEnd e
    | .idle => s
  | none => s

def execStopCauseTeardown (ch : ChannelNo) (s : State) : Result :=
  match s.takeCause ch .teardown with
  | some t => .next (t.causeTeardown ch)
  | none => .next s

end Sys2Proof.Machine
end

