-- ==== Sys2Proof/Machine/Staging.lean ====
section
/-! DEFINITION. The Staging Pool's own happenings (Chapter 4): requests for room, reports of confirmed
bytes, and the release of lines at a stop's end. -/

namespace Sys2Proof.Machine

/-- An engine asks for room when the read at its read position is the next to be issued, its room is
not given and no request of it stands (R55, R78). -/
def Work.asksRoom (w : Work) : Bool := w.readPos < w.reads && !w.room

/-- The pool takes an engine's request (R78, R79): a read that lies in the line the engine is already
filling is given its room without a line; any other is decided under R79. -/
def execRoomRequest (e : EngineNo) (s : State) : Result :=
  match (s.engine e).phase, (s.poolEngine e).request with
  | .running w, .none =>
    if w.asksRoom then
      if w.needsLine then .next (s.requestLine e)
      else .next (s.setEngine e (s.engine e).givenRoom)
    else .next s
  | _, _ => .next s

/-- The pool takes the bytes an engine reports as confirmed (R82–R84). The numbered rules place this
inside the write response that confirms them, where WRITE_RESPONSE_OKAY does it by the same
operation; taken again it finds nothing left to free (log entry 13). -/
def execConfirmedBytes (e : EngineNo) (s : State) : Result := .next (s.takeConfirmed e)

/-- At a stop's end an engine releases every staging line it holds (R72, R85). The numbered rules
place this inside the happening in which the engine becomes IDLE, so a stop that is at its end ends
here too, and an IDLE engine gives up whatever it holds (R75; log entry 13). -/
def execLineRelease (e : EngineNo) (s : State) : Result :=
  match (s.engine e).phase with
  | .idle => .next (s.releaseLines e)
  | .stopping _ _ => .next (s.tryStopEnd e)
  | .running _ => .next s

end Sys2Proof.Machine
end

