-- ==== Sys2Proof/Machine/Notices.lean ====
section
/-! DEFINITION. The Notice Units (Chapter 8): postings of system notices, POP_NOTICE, the interrupt
enable, and the clearing at a teardown. -/

namespace Sys2Proof.Machine

/-- A Notice Unit takes a system notice (R138): discarded when the port is not ONLINE (R141), else
placed in the queue, merged, or deferred. -/
def State.takePosting (s : State) (p : Port) (n : SystemNotice) : State :=
  if s.online p then s.setNoticeUnit p ((s.noticeUnit p).placeSystem n) else s

def execSystemNoticePosting (p : Port) (position : Nat) (s : State) : Result :=
  match takeAt position (s.wires.postings.get p) with
  | some (n, rest) =>
    .next ((s.setWires { s.wires with postings := s.wires.postings.set p rest }).takePosting p n)
  | none => .next s

/-- The channel of an admitted notice moves from POSTING to its after-state (R21, R144). What that
move hands to the Trigger Unit and the Line Map is taken by them as happenings of their own
(RUN_QUEUE_JOIN, LINE_PENDING_DROP, LINE_CHANNEL_ABLE). -/
def State.unparkChannel (s : State) (ch : ChannelNo) : State :=
  let c := s.channel ch
  match c.afterState with
  | some next => s.setChannel ch (c.settled next)
  | none => s

/-- What a pop leaves of the unit after the head has left, and the channel it releases (R142): the
oldest deferred entry, else the oldest parked notice when fewer than 28 records are queued, else
nothing. -/
def NoticeUnit.refill (u : NoticeUnit) : NoticeUnit × Option ChannelNo :=
  match u.deferred with
  | x :: rest => (({ u with deferred := rest }).enter (.system x.notice) x.repeats, none)
  | [] =>
    match u.parking with
    | x :: rest =>
      if u.queue.length < Config.channelRoom then
        (({ u with parking := rest }).enter (.channel x.notice) 1, some x.channel)
      else (u, none)
    | [] => (u, none)

/-- POP_NOTICE (R142, R166). -/
def popNoticeAct : Act := fun p _ s =>
  if !s.online p then (.plain .notOnline, s)
  else
    let u := s.noticeUnit p
    match u.queue with
    | [] => (.plain .queueEmpty, s)
    | x :: rest =>
      let r := ({ u with queue := rest }).refill
      let t := s.setNoticeUnit p r.1
      (⟨.ok, noticeView x⟩,
        match r.2 with
        | some ch => t.unparkChannel ch
        | none => t)

def execPopNotice (p : Port) (s : State) : Result := .next (ownerTakes .popNotice popNoticeAct p s)

/-- A write of INTEN sets the enable copy to bit 0 of the value written (R145, R159); while PRSTx is
asserted the window ignores it (R153). -/
def execIntenWrite (p : Port) (value : Word) (s : State) : Result :=
  if s.prst.get p then .next s
  else .next (s.setNoticeUnit p { s.noticeUnit p with enable := value.getLsbD 0 })

/-- The queue and the Deferred Set are emptied and the sequence number is 0; the Parking List and the
enable stay (R145, R146). -/
def NoticeUnit.cleared (u : NoticeUnit) : NoticeUnit :=
  { u with queue := [], deferred := [], sequence := 0 }

def execNoticeUnitClear (p : Port) (s : State) : Result :=
  let x := s.wires.directions.get p
  if x.noticeUnit then
    let t := s.setDirections p { x with noticeUnit := false }
    .next ((t.setNoticeUnit p (t.noticeUnit p).cleared).sendField p .notices)
  else .next s

end Sys2Proof.Machine
end

