-- ==== Sys2Proof/Machine/Ports.lean ====
section
/-! DEFINITION. The Port Command Units (Chapters 9 and 10): the window and the command cycle, the
session commands, READ_ENGINES, the port reset lines, teardown completion, and power-on reset. -/

namespace Sys2Proof.Machine

/-! ### The window (R159, R160, R162) -/

/-- A host write of CMD (R160, R162): ignored while PRSTx is asserted (R153), dropped while a command
is BUSY, and otherwise latched and handed to its owner. -/
def State.writeCmd (s : State) (p : Port) (code : Word) : State :=
  let u := s.port p
  if s.prst.get p then s
  else
    match u.latched with
    | some _ => s.setPort p { u with dropped := true }
    | none =>
      let l : Latched := { cycle := u.nextCycle, code, args := u.args }
      let t := s.setPort p { u with cmd := code, latched := some l, nextCycle := u.nextCycle + 1 }
      t.setHanded p (s.wires.handed.get p ++ [l])

/-- A write of CMD. The table has one row for each outcome of such a write, and the command state
decides the outcome (log entry 6). -/
def execCommandLatch (p : Port) (code : Word) (s : State) : Result := .next (s.writeCmd p code)

def execCmdWriteDropped (p : Port) (code : Word) (s : State) : Result := .next (s.writeCmd p code)

/-- A write of PSTAT with its DROPPED bit set clears DROPPED (R162). -/
def execPstatWrite (p : Port) (value : Word) (s : State) : Result :=
  if !s.prst.get p && value.getLsbD 9 then .next (s.setPort p { s.port p with dropped := false })
  else .next s

/-- The argument register at a window offset (Table 10-1). -/
def argOffset (offset : BitVec 6) : Option (Fin 8) :=
  let n := offset.toNat
  if h : n % 4 = 0 ∧ 4 ≤ n ∧ n ≤ 0x20 then some ⟨n / 4 - 1, by omega⟩ else none

/-- A write of ARG0–ARG7 changes the register whatever the command state; a write of a register with
no behaviour of its own is ignored (R159). All 32 bits are stored, those of ARG6 and ARG7 that no layout
assigns among them. DEDUCED, log entry 44, unsafe for reading those bits back. -/
def execRegisterWrite (p : Port) (offset : BitVec 6) (value : Word) (s : State) : Result :=
  match argOffset offset with
  | some i =>
    if s.prst.get p then .next s
    else .next (s.setPort p { s.port p with args := (s.port p).args.put i value })
  | none => .next s

/-- An answer reaches the Port Command Unit: written when it names the cycle latched and BUSY, and
otherwise discarded (R161). -/
def execCommandAnswer (p : Port) (position : Nat) (s : State) : Result :=
  match takeAt position (s.wires.answers.get p) with
  | some (a, rest) =>
    .next ((s.setWires { s.wires with answers := s.wires.answers.set p rest }).writeAnswer p a)
  | none => .next s

/-- An unlisted code is answered UNKNOWN_COMMAND in any session state (R163). -/
def unknownAct : Act := fun _ _ s => (.plain .unknownCommand, s)

def execUnknownCommandCode (p : Port) (s : State) : Result :=
  .next (unitTakes (fun l => (commandOf l.code).isNone) unknownAct p s)

/-! ### ANNOUNCE and DETACH (R149, R151) -/

def State.setSession (s : State) (p : Port) (x : Session) : State :=
  s.setPort p { s.port p with session := x }

/-- The answer of an ANNOUNCE that joins: peer session, part identity, revision (R149,
Table 10-7). -/
def announceReply (peer : Session) : Reply :=
  ⟨.ok, results (place 0 peer.value) (place 0 Config.partIdentity) (place 0 Config.partRevision) 0⟩

def announceAct : Act := fun p _ s =>
  match (s.port p).session with
  | .offline =>
    (announceReply (s.port p.peer).session,
      (s.setSession p .online).postSystem p.peer .peerReady)
  | .clearing _ => (.plain .portClearing, s)
  | .online => (.plain .wrongState, s)

def execAnnounce (p : Port) (s : State) : Result :=
  .next (unitTakes (fun l => commandOf l.code = some .announce) announceAct p s)

def detachAct : Act := fun p _ s =>
  match (s.port p).session with
  | .online => (.plain .accepted, s.startTeardown p .detach)
  | .clearing _ => (.plain .portClearing, s)
  | .offline => (.plain .notOnline, s)

def execDetach (p : Port) (s : State) : Result :=
  .next (unitTakes (fun l => commandOf l.code = some .detach) detachAct p s)

/-! ### READ_ENGINES (R74) -/

/-- The five blocks asked. -/
def allSources : List PartSource :=
  [.engine 0, .engine 1, .engine 2, .engine 3, .pool]

/-- The Port Command Unit asks the five blocks for their parts, naming the cycle. -/
def State.askEngines (s : State) (p : Port) (l : Latched) : State :=
  let t := s.setPort p { s.port p with gather := some ⟨l.cycle, .fill 4 none, none⟩ }
  t.setWires
    { t.wires with
      asks := t.wires.asks.set p (t.wires.asks.get p ++ allSources.map fun x => ⟨l.cycle, x⟩) }

def Gather.add (g : Gather) (b : PartBody) : Gather :=
  match b with
  | .engine e v => { g with engines := g.engines.put e (some v) }
  | .pool n => { g with pool := some n }

/-- All five parts, when they are there. -/
def Gather.complete (g : Gather) : Option (Table EngineView 4 × Nat) :=
  match g.engines.row 0, g.engines.row 1, g.engines.row 2, g.engines.row 3, g.pool with
  | some a, some b, some c, some d, some n =>
    some (((((Table.fill 4 a).put 1 b).put 2 c).put 3 d), n)
  | _, _, _, _, _ => none

/-- READ_ENGINES is taken and answered with the last part: NOT_ONLINE when the port is not ONLINE in
that happening. -/
def enginesReply (online : Bool) (v : Table EngineView 4) (freeShared : Nat) : Reply :=
  if online then ⟨.ok, enginesView v freeShared⟩ else .plain .notOnline

/-- A part reaches the Port Command Unit: one that names a withdrawn cycle is discarded; the last of
the five brings the answer. -/
def State.takePart (s : State) (p : Port) (x : EnginesPart) : State :=
  let u := s.port p
  match u.gather with
  | none => s
  | some g =>
    if g.cycle = x.cycle then
      let h := g.add x.body
      match h.complete with
      | none => s.setPort p { u with gather := some h }
      | some (v, n) =>
        (s.setPort p { u with gather := none }).writeAnswer p
          ⟨g.cycle, enginesReply (s.online p) v n⟩
    else s

/-- The two kinds of happening of READ_ENGINES at the Port Command Unit (log entry 22). -/
def execReadEngines (p : Port) (g : GatherStep) (s : State) : Result :=
  match g with
  | .ask =>
    match s.wires.handed.get p with
    | l :: rest =>
      if commandOf l.code = some .readEngines then .next ((s.setHanded p rest).askEngines p l)
      else .next s
    | [] => .next s
  | .part position =>
    match takeAt position (s.wires.parts.get p) with
    | some (x, rest) =>
      .next ((s.setWires { s.wires with parts := s.wires.parts.set p rest }).takePart p x)
    | none => .next s

/-- An engine's part for a port: state, channel served as that port may see it, lines held. -/
def State.engineView (s : State) (p : Port) (e : EngineNo) : EngineView :=
  let n := (s.poolEngine e).held.length
  let served := fun (w : Work) => if w.owner = p then ServedView.own w.channel else .other
  match (s.engine e).phase with
  | .idle => ⟨.idle, .absent, n⟩
  | .running w => ⟨.running, served w, n⟩
  | .stopping w _ => ⟨.stopping, served w, n⟩

def State.partOf (s : State) (p : Port) (x : PartSource) : PartBody :=
  match x with
  | .engine e => .engine e (s.engineView p e)
  | .pool => .pool s.pool.free.length

/-- An engine or the pool takes the oldest request a port sent it and sends its part as it stands,
naming the cycle. No rule orders two requests to one block; that the oldest is taken first is the
model's choice. DESIGN CHOICE, log entry 42, safe. -/
def execReadEnginesPart (p : Port) (src : PartSource) (s : State) : Result :=
  match takeFirst (fun x => x.source = src) (s.wires.asks.get p) with
  | some (x, rest) =>
    .next (s.setWires
      { s.wires with
        asks := s.wires.asks.set p rest
        parts := s.wires.parts.set p (s.wires.parts.get p ++ [⟨x.cycle, s.partOf p src⟩]) })
  | none => .next s

/-! ### The port reset line (R152, R153, R157) -/

/-- What an assertion does to the window: the command state returns to IDLE, a command the unit owns
itself that is not yet taken is withdrawn, DROPPED is cleared (R153). -/
def State.freezeWindow (s : State) (p : Port) : State :=
  let t := s.setPort p { s.port p with latched := none, dropped := false, gather := none }
  t.setHanded p ((t.wires.handed.get p).filter fun l => !unitOwned l)

/-- What an assertion does to the session (R152): a reset teardown from ONLINE; in a DETACH teardown
the cause becomes RESET and the Bus Master is directed to abandon its bus (R157). -/
def State.resetSession (s : State) (p : Port) : State :=
  match (s.port p).session with
  | .online => s.startTeardown p .reset
  | .clearing t =>
    match t.cause with
    | .detach =>
      let u := s.setSession p (.clearing { t with cause := .reset })
      let x := u.wires.directions.get p
      u.setDirections p { x with abandon := x.abandon + 1 }
    | .reset => s
  | .offline => s

/-- PRSTx goes from deasserted to asserted; while it is asserted there is no further assertion. -/
def execPrstxAsserted (p : Port) (s : State) : Result :=
  if s.prst.get p then .next s
  else
    let t := { s with prst := s.prst.set p true }
    .next ((State.freezeWindow t p).resetSession p)

/-- Release of PRSTx: the window takes writes and returns reads again (R153). -/
def execPrstxReleased (p : Port) (s : State) : Result :=
  .next { s with prst := s.prst.set p false }

/-! ### Teardown reports (R154, R156) -/

def Teardown.mark (t : Teardown) : TeardownField → Teardown
  | .channels => { t with channels := true }
  | .apertures => { t with apertures := true }
  | .lines => { t with lines := true }
  | .notices => { t with notices := true }

def Teardown.complete (t : Teardown) : Bool :=
  t.channels && t.apertures && t.lines && t.notices

/-- A report or confirmation marks its field held; with all four held the port is OFFLINE (R154,
R156). One taken while the port is not CLEARING is ignored. -/
def State.markField (s : State) (p : Port) (f : TeardownField) : State :=
  match (s.port p).session with
  | .clearing t =>
    if (t.mark f).complete then s.setSession p .offline else s.setSession p (.clearing (t.mark f))
  | _ => s

def execTeardownReport (p : Port) (f : TeardownField) (s : State) : Result :=
  match takeFirst (fun x => x = f) (s.wires.fields.get p) with
  | some (_, rest) =>
    .next ((s.setWires { s.wires with fields := s.wires.fields.set p rest }).markField p f)
  | none => .next s

/-! ### Power-on reset (R2, R30, R38, R49, R75, R88, R107, R136, R148, R159) -/

/-- Every block takes its initial values and every hand-off under way is abandoned. The levels of the
inputs, the free-running clock, the position of the next free value and the schedule are not the
hub's to reset (log entry 24). -/
def execPowerOnReset (s : State) : Result :=
  .next
    { State.reset with
      req := s.req, prst := s.prst, clock := s.clock, freeCount := s.freeCount
      pending := s.pending }

end Sys2Proof.Machine
end

