-- ==== Sys2Proof/Machine/Dispatch.lean ====
section
/-! DEFINITION. The meaning of every command: one arm for each row of spec/opcode_table.json. -/

namespace Sys2Proof.Machine

def exec (i : Instr) (s : State) : Host.Outcome State Fault Refusal :=
  match i with
  | .announce p => Sys2Proof.Machine.execAnnounce p s
  | .detach p => Sys2Proof.Machine.execDetach p s
  | .claim p => Sys2Proof.Machine.execClaim p s
  | .release p => Sys2Proof.Machine.execRelease p s
  | .load p => Sys2Proof.Machine.execLoad p s
  | .readChannel p => Sys2Proof.Machine.execReadChannel p s
  | .queryTable p => Sys2Proof.Machine.execQueryTable p s
  | .readEngines p g => Sys2Proof.Machine.execReadEngines p g s
  | .readEnginesPart p src => Sys2Proof.Machine.execReadEnginesPart p src s
  | .start p => Sys2Proof.Machine.execStart p s
  | .abort p => Sys2Proof.Machine.execAbort p s
  | .resume p => Sys2Proof.Machine.execResume p s
  | .mapLine p => Sys2Proof.Machine.execMapLine p s
  | .unmapLine p => Sys2Proof.Machine.execUnmapLine p s
  | .openAperture p => Sys2Proof.Machine.execOpenAperture p s
  | .revokeAperture p => Sys2Proof.Machine.execRevokeAperture p s
  | .queryAperture p => Sys2Proof.Machine.execQueryAperture p s
  | .setResponseLimit p => Sys2Proof.Machine.execSetResponseLimit p s
  | .clearBus p => Sys2Proof.Machine.execClearBus p s
  | .popNotice p => Sys2Proof.Machine.execPopNotice p s
  | .unknownCommandCode p => Sys2Proof.Machine.execUnknownCommandCode p s
  | .commandAnswer p position => Sys2Proof.Machine.execCommandAnswer p position s
  | .cmdWriteDropped p code => Sys2Proof.Machine.execCmdWriteDropped p code s
  | .pstatWrite p value => Sys2Proof.Machine.execPstatWrite p value s
  | .intenWrite p value => Sys2Proof.Machine.execIntenWrite p value s
  | .registerWrite p offset value => Sys2Proof.Machine.execRegisterWrite p offset value s
  | .reqAsserted l => Sys2Proof.Machine.execReqAsserted l s
  | .reqDeasserted l => Sys2Proof.Machine.execReqDeasserted l s
  | .lineChannelAble l => Sys2Proof.Machine.execLineChannelAble l s
  | .lineAcknowledge l => Sys2Proof.Machine.execLineAcknowledge l s
  | .lineReturn l => Sys2Proof.Machine.execLineReturn l s
  | .dispatch => Sys2Proof.Machine.execDispatch s
  | .roomRequest e => Sys2Proof.Machine.execRoomRequest e s
  | .confirmedBytes e => Sys2Proof.Machine.execConfirmedBytes e s
  | .lineRelease e => Sys2Proof.Machine.execLineRelease e s
  | .takeOffer d => Sys2Proof.Machine.execTakeOffer d s
  | .admissionRequest d => Sys2Proof.Machine.execAdmissionRequest d s
  | .admissionAnswer d => Sys2Proof.Machine.execAdmissionAnswer d s
  | .admissionRefusal d e => Sys2Proof.Machine.execAdmissionRefusal d e s
  | .busResponse d r => Sys2Proof.Machine.execBusResponse d r s
  | .responseLimitExpiry d position => Sys2Proof.Machine.execResponseLimitExpiry d position s
  | .readResponseOkay d e => Sys2Proof.Machine.execReadResponseOkay d e s
  | .writeResponseOkay d e => Sys2Proof.Machine.execWriteResponseOkay d e s
  | .responseError d e => Sys2Proof.Machine.execResponseError d e s
  | .transactionFailure d e => Sys2Proof.Machine.execTransactionFailure d e s
  | .stopCauseAbort ch => Sys2Proof.Machine.execStopCauseAbort ch s
  | .stopCauseTeardown ch => Sys2Proof.Machine.execStopCauseTeardown ch s
  | .faultMessage ch => Sys2Proof.Machine.execFaultMessage ch s
  | .unitEndReport ch => Sys2Proof.Machine.execUnitEndReport ch s
  | .stopReport ch => Sys2Proof.Machine.execStopReport ch s
  | .linkDelivery position => Sys2Proof.Machine.execLinkDelivery position s
  | .systemNoticePosting p position => Sys2Proof.Machine.execSystemNoticePosting p position s
  | .userEnd d => Sys2Proof.Machine.execUserEnd d s
  | .channelTableTeardown p => Sys2Proof.Machine.execChannelTableTeardown p s
  | .triggerUnitTeardown p => Sys2Proof.Machine.execTriggerUnitTeardown p s
  | .apertureUnitTeardown p => Sys2Proof.Machine.execApertureUnitTeardown p s
  | .noticeUnitClear p => Sys2Proof.Machine.execNoticeUnitClear p s
  | .busAbandon d => Sys2Proof.Machine.execBusAbandon d s
  | .teardownReport p field => Sys2Proof.Machine.execTeardownReport p field s
  | .prstxAsserted p => Sys2Proof.Machine.execPrstxAsserted p s
  | .prstxReleased p => Sys2Proof.Machine.execPrstxReleased p s
  | .powerOnReset => Sys2Proof.Machine.execPowerOnReset s
  | .commandLatch p code => Sys2Proof.Machine.execCommandLatch p code s
  | .linePendingDrop l => Sys2Proof.Machine.execLinePendingDrop l s
  | .runQueueJoin ch => Sys2Proof.Machine.execRunQueueJoin ch s
  | .offerReturned d e => Sys2Proof.Machine.execOfferReturned d e s

end Sys2Proof.Machine
end

