-- ==== Sys2Proof/Machine/Step.lean ====
section
/-! DEFINITION. One step of the hub: the happening at the front of the schedule. -/

namespace Sys2Proof.Machine

/-- The front of the schedule is taken with the schedule's rest. With nothing scheduled the hub idles:
one microsecond of the reference clock passes and nothing else changes (log entry 3). -/
def step (s : State) : Host.Outcome State Fault Refusal :=
  match s.pending with
  | [] => .next { s with clock := s.clock + 1 }
  | c :: rest => exec c { s with pending := rest }

/-- The command that a word spells is put at the front of the schedule; no word spells one, for the
table gives no bits (log entry 29). -/
def State.withFetchWord (s : State) (nbits w : Nat) : State :=
  match decodeTableWord nbits w with
  | some c => { s with pending := c :: s.pending }
  | none => s

end Sys2Proof.Machine
end

