-- ==== Sys2Proof/Safety.lean ====
section
/-! DEFINITION. What counts as a safe hub: the conditions that the rules say hold at every moment,
block by block, in the terms that claims use. Each is about one state, so that "every step keeps it"
is a statement about all states that meet it. -/

namespace Sys2Proof.Machine

/-! ### Channel records (R1, R28) -/

/-- The conditions of R1 on one record: a FREE record is blank, every other has an owner, after-state
and unit origin are present exactly in their states, a program is present in every state that needs
one, credit is at most 15 (R28), and IDLE and FAULTED hold no trigger (R14). -/
structure Channel.Sound (c : Channel) : Prop where
  free : c.state = .free → c = .free
  owned : c.state ≠ .free → c.owner.isSome
  after : c.afterState.isSome ↔ c.state = .posting
  origin : c.origin.isSome ↔ c.state = .running ∨ c.state = .stopping
  loaded : c.state ≠ .free → c.state ≠ .idle → c.loaded.isSome
  credit : c.credit ≤ 15
  quiet : c.state = .idle ∨ c.state = .faulted → c.credit = 0 ∧ c.linePending = false

def State.ChannelsSound (s : State) : Prop := ∀ ch, (s.channel ch).Sound

/-! ### Run queues (R30, R31, R34) -/

/-- The three queues one after another. -/
def TriggerUnit.all (t : TriggerUnit) : List ChannelNo := t.urgent ++ t.normal ++ t.bulk

/-- No channel appears twice, and every queued channel is eligible and stands in the queue of the
class of its loaded program (R30, R31). -/
def State.QueuesSound (s : State) : Prop :=
  s.trigger.all.Nodup ∧
    ∀ k ch, ch ∈ s.trigger.queue k →
      (s.channel ch).eligible ∧ ∃ ld, (s.channel ch).loaded = some ld ∧ ld.program.cls = k

/-- Every eligible channel stands in a queue: the other half of R30, which holds but for the channels
that a release from parking has made eligible and RUN_QUEUE_JOIN has not yet queued (R144). -/
def State.EligibleQueued (s : State) : Prop :=
  ∀ ch, (s.channel ch).eligible = true → ∃ k, ch ∈ s.trigger.queue k

/-- A skip counter is at most 8, and above 0 only while its queue holds a channel (R34). -/
def State.SkipsSound (s : State) : Prop :=
  s.trigger.normalSkip ≤ 8 ∧ s.trigger.bulkSkip ≤ 8 ∧
    (s.trigger.normal = [] → s.trigger.normalSkip = 0) ∧
    (s.trigger.bulk = [] → s.trigger.bulkSkip = 0)

/-! ### The Line Map (R38, R40, R41) -/

/-- A line has a mapping exactly when it is not UNMAPPED, the line and its channel name each other
and the mapping port owns the channel, and a channel's pending trigger stands in its PENDING line. -/
structure State.LinesSound (s : State) : Prop where
  unmapped : ∀ l, (s.line l).mapping = none ↔ (s.line l).state = .unmapped
  toChannel : ∀ l m, (s.line l).mapping = some m →
    (s.channel m.channel).mappedLine = some l ∧ (s.channel m.channel).owner = some m.port
  toLine : ∀ ch l, (s.channel ch).mappedLine = some l →
    ∃ m, (s.line l).mapping = some m ∧ m.channel = ch
  pending : ∀ ch, (s.channel ch).linePending = true →
    ∃ l, (s.channel ch).mappedLine = some l ∧ (s.line l).state = .pending

/-! ### Standing offers (R57) -/

/-- What stands at a Bus Master is what the engine's progress offers it: nothing unless the engine is
RUNNING. -/
def State.OffersSound (s : State) : Prop :=
  ∀ e d, (s.engine e).offers.get d = (s.engine e).offerAt d

/-! ### The Staging Pool (R75) -/

/-- The lines an engine holds. -/
def PoolEngine.lines (x : PoolEngine) : List StagingLine := x.held.map (·.line)

/-- Every line is exactly one of a free reserve line, a line on the shared free list, or a line held
by one engine: no line twice, reserve lines at their own engine alone, and no shared line lost (R75).
An engine has a limit, of at most 32 lines, exactly while it is not IDLE, and holds no more lines than
that (R76). The engines with a LISTED request, and they alone, stand on the Line Wait List, each once
and below its limit (R80). -/
structure State.PoolSound (s : State) : Prop where
  freeOnce : s.pool.free.Nodup
  freeShared : ∀ n ∈ s.pool.free, sharedLine n
  heldOnce : ∀ e, (s.poolEngine e).lines.Nodup
  heldApart : ∀ e f n, n ∈ (s.poolEngine e).lines → n ∈ (s.poolEngine f).lines → e = f
  heldNotFree : ∀ e n, n ∈ (s.poolEngine e).lines → n ∉ s.pool.free
  reserveOwn : ∀ e n, n ∈ (s.poolEngine e).lines → sharedLine n ∨ n.val / 2 = e.val
  accounted : ∀ n, sharedLine n → n ∈ s.pool.free ∨ ∃ e, n ∈ (s.poolEngine e).lines
  limited : ∀ e, (s.poolEngine e).limit = none ↔ (s.engine e).phase = .idle
  most : ∀ e k, (s.poolEngine e).limit = some k → k.lines ≤ 32
  within : ∀ e, (s.poolEngine e).held.length ≤ (s.poolEngine e).limitLines
  listed : ∀ e, (s.poolEngine e).request = .listed ↔ e ∈ s.pool.waiting
  waitingOnce : s.pool.waiting.Nodup
  below : ∀ e ∈ s.pool.waiting, (s.poolEngine e).held.length < (s.poolEngine e).limitLines

/-! ### Apertures and their users (R88, R100, R107) -/

/-- Admission requests on their way to an Aperture Unit. -/
def requestsIn (ws : List ApertureWord) : Nat :=
  ws.countP fun w => match w with
    | .request .. => true
    | .userEnd _ => false

/-- Ends of users of aperture `i` on their way to its Aperture Unit. -/
def endsIn (i : ApertureNo) (ws : List ApertureWord) : Nat := ws.count (.userEnd i)

/-- Entries of a bus list that aperture `i` admitted. -/
def entriesIn (i : ApertureNo) (es : List BusEntry) : Nat := es.countP fun x => x.aperture = i

/-- The answer under way admits a transaction through aperture `i`. -/
def admittedIn (i : ApertureNo) (r : Option AdmissionReply) : Nat :=
  if r = some (.admitted i) then 1 else 0

/-- Users are the entries on the bus list, the transaction admitted and not yet issued or released,
and the ends sent and not yet taken (R107); a request or an answer is under way exactly while an
admission is in progress; CLOSED has no users and DRAINING has some (R94, R100); and a record that is
not CLOSED has been opened. -/
structure State.UsersSound (s : State) (d : Domain) : Prop where
  users : ∀ i, (s.aperture d i).users =
    entriesIn i (s.master d).list + admittedIn i (s.wires.admissions.get d)
      + endsIn i (s.wires.aperture.get d)
  inProgress : requestsIn (s.wires.aperture.get d)
      + (if (s.wires.admissions.get d).isSome then 1 else 0)
    = if (s.master d).admission.isSome then 1 else 0
  closed : ∀ i, (s.aperture d i).state = .closed → (s.aperture d i).users = 0
  draining : ∀ i, (s.aperture d i).state = .draining → 0 < (s.aperture d i).users
  granted : ∀ i, (s.aperture d i).state ≠ .closed → (s.aperture d i).grant.isSome

/-! ### Bus lists (R107) -/

/-- At most 16 entries, a place kept for the admission in progress; OPEN with every entry OUTSTANDING
and stale count 0, or RECOVERING with every entry STALE, counted and untimed; the limit in its range. -/
structure BusMaster.Sound (m : BusMaster) : Prop where
  places : m.list.length + (if m.admission.isSome then 1 else 0) ≤ 16
  limit : m.limit ≤ 65535
  whenOpen : m.state = .open → m.stale = 0 ∧ ∀ x ∈ m.list, x.status = .outstanding
  whenRecovering : m.state = .recovering →
    m.stale = m.list.length ∧ m.list ≠ [] ∧ ∀ x ∈ m.list, x.status = .stale ∧ x.deadline = none

def State.BusesSound (s : State) : Prop := ∀ d, (s.master d).Sound

/-! ### Notice Units (R136, R137, R140, R143) -/

/-- Sequence numbers rise by one from head to tail, and the next record takes the one after the last
(R140). -/
def sequenced (next : BitVec 16) : List NoticeRecord → Prop
  | [] => True
  | x :: xs => x.sequence = next - BitVec.ofNat 16 (xs.length + 1) ∧ sequenced next xs

/-- At most 32 records in sequence, each with a repeat count of 1 to 255; deferred entries only behind
a full queue, no two of one kind and subject (R136, R137, R139, R140). -/
structure NoticeUnit.Sound (u : NoticeUnit) : Prop where
  room : u.queue.length ≤ 32
  inSequence : sequenced u.sequence u.queue
  counts : ∀ x ∈ u.queue, 1 ≤ x.repeats ∧ x.repeats ≤ 255
  behindFull : u.deferred ≠ [] → u.queue.length = 32
  apart : u.deferred.Pairwise fun x y => x.notice.sameKey y.notice = false
  deferredCounts : ∀ x ∈ u.deferred, 1 ≤ x.repeats ∧ x.repeats ≤ 255

def State.NoticesSound (s : State) : Prop := ∀ p, (s.noticeUnit p).Sound

/-- A channel stands once in its owner's Parking List exactly while it is POSTING (R143). -/
structure State.ParkingSound (s : State) : Prop where
  once : ∀ p, ((s.noticeUnit p).parking.map (·.channel)).Nodup
  posting : ∀ p ch, ch ∈ (s.noticeUnit p).parking.map (·.channel) ↔
    (s.channel ch).state = .posting ∧ (s.channel ch).owner = some p

/-! ### A command at the front of its port's hand-off (R160, R161) -/

/-- The oldest command handed over for port `p` is `l`, of code `code` (Table 10-3), and `rest` stand
behind it. -/
abbrev State.handedOver (s : State) (p : Port) (code : Nat) (l : Latched) (rest : List Latched) : Prop :=
  s.wires.handed.get p = l :: rest ∧ l.code.toNat = code

/-- Argument `i` of a latched command as the whole value of its register (R163). -/
def Latched.arg (l : Latched) (i : Fin 8) : Nat := (l.args.row i).toNat

/-- `s` once an owner has taken the command `l` and sent its answer, nothing else changed. -/
def State.taken (s : State) (p : Port) (l : Latched) (rest : List Latched) (r : Reply) : State :=
  { s with
    wires :=
      { s.wires with
        handed := s.wires.handed.set p rest
        answers := s.wires.answers.set p (s.wires.answers.get p ++ [⟨l.cycle, r⟩]) } }

/-- `s` once the Port Command Unit has taken its own command `l` and written the answer, nothing else
changed. -/
def State.written (s : State) (p : Port) (rest : List Latched) (r : Reply) : State :=
  { s with
    wires := { s.wires with handed := s.wires.handed.set p rest }
    ports :=
      s.ports.set p { s.port p with res := r.res, result := r.code, latched := none } }

/-! ### The LOAD checks by arithmetic (Tables 1-4 and 10-5, R8, R9) -/

/-- Bits `lo + n - 1 : lo` of a value. -/
def field (v lo n : Nat) : Nat := v / 2 ^ lo % 2 ^ n

/-- The result registers of a POP_NOTICE show a record as Table 10-9 lays it out (R166): kind, repeat
count and sequence number in RES0, the subject byte in RES1, and the fields of its kind. -/
def NoticeRecord.ShownIn (x : NoticeRecord) (r : Table Word 4) : Prop :=
  let shows := fun (kind subject rest r2 r3 : Nat) =>
    (r.row 0).toNat = kind + 2 ^ 8 * x.repeats + 2 ^ 16 * x.sequence.toNat ∧
      (r.row 1).toNat = subject + rest ∧ (r.row 2).toNat = r2 % 2 ^ 32 ∧
      (r.row 3).toNat = r3 % 2 ^ 32
  let channel := fun ch : ChannelNo => 0x40 + ch.val
  let aperture := fun (d : Domain) (i : ApertureNo) => 0x80 + 8 * domainValue d + i.val
  match x.notice with
  | .channel (.unitDone ch remaining done o) =>
    shows 1 (channel ch) (2 ^ 8 * o.value) remaining done
  | .channel (.channelDone ch remaining done o unused) =>
    unused ≤ 15 → shows 2 (channel ch) (2 ^ 8 * o.value + 2 ^ 12 * unused) remaining done
  | .channel (.aborted ch remaining done o) =>
    shows 3 (channel ch) (2 ^ 8 * o.value) remaining done
  | .channel (.fault ch f) =>
    shows 4 (channel ch)
      (2 ^ 8 * f.kind.value + 2 ^ 11 * domainValue f.domain + 2 ^ 12 * flag f.collateral)
      f.address.toNat f.index
  | .system (.linkRefused source target reason) =>
    shows 5 (channel source) (2 ^ 8 * target.val + 2 ^ 14 * reason.value) 0 0
  | .system (.apertureOffered d i generation base pages rights) =>
    shows 6 (aperture d i) (2 ^ 8 * generation.toNat + 2 ^ 16 * rights.value) base.toNat pages
  | .system (.apertureWithdrawn d i generation) =>
    shows 7 (aperture d i) (2 ^ 8 * generation.toNat) 0 0
  | .system (.revokeDone d i generation) =>
    shows 8 (aperture d i) (2 ^ 8 * generation.toNat) 0 0
  | .system .peerLost => shows 9 0 0 0 0
  | .system .peerReady => shows 10 0 0 0 0

/-- Lowest byte of an endpoint over `n` elements of `s` bytes, from the code of its step (R8). -/
def lowestByte (step start n s : Nat) : Int :=
  if step = 1 then (start : Int) - ((n : Int) - 1) * s else start

/-- Highest byte, with `b` elements in a block span (R8). -/
def highestByte (step start n s b : Nat) : Int :=
  if step = 0 then (start : Int) + n * s - 1
  else if step = 3 then (start : Int) + b * s - 1
  else (start : Int) + s - 1

/-- One side of a program in numbers: domain and step codes, and start address. -/
structure SideCode where
  domain : Nat
  step : Nat
  start : Nat

/-- Checks 10, 11 and 16 for `n` elements of `s` bytes with `b` in a block span: check `k` fails
(R8, R9). -/
def RangeCheckFails (x y : SideCode) (n s b k : Nat) : Prop :=
  let lo := fun z : SideCode => lowestByte z.step z.start n s
  let hi := fun z : SideCode => highestByte z.step z.start n s b
  (k = 10 ∧ (lo x < 0 ∨ 4294967295 < hi x)) ∨
  (k = 11 ∧ (lo y < 0 ∨ 4294967295 < hi y)) ∨
  (k = 16 ∧ x.domain = y.domain ∧ x.step ≠ 2 ∧ y.step ≠ 2 ∧ lo x ≤ hi y ∧ lo y ≤ hi x)

/-- Check `k` of Table 1-4 fails for an argument block laid out as Table 10-5 says. -/
def LoadCheckFails (l : Latched) (k : Nat) : Prop :=
  let mode := field (l.arg 1) 0 2
  let size := field (l.arg 1) 2 3
  let x : SideCode := ⟨field (l.arg 1) 11 1, field (l.arg 1) 5 3, l.arg 2⟩
  let y : SideCode := ⟨field (l.arg 1) 12 1, field (l.arg 1) 8 3, l.arg 3⟩
  let count := l.arg 4
  let length := l.arg 5
  (k = 1 ∧ mode = 3) ∨ (k = 2 ∧ 4 ≤ size) ∨ (k = 3 ∧ 4 ≤ x.step) ∨ (k = 4 ∧ 4 ≤ y.step) ∨
  (k = 5 ∧ (x.step = 3 ∨ y.step = 3) ∧ mode ≠ 2) ∨
  (k = 6 ∧ (if mode = 2 then length = 0 ∨ 255 < length else length ≠ 0)) ∨
  (k = 7 ∧ (count = 0 ∨ 16777215 < count)) ∨
  (k = 8 ∧ x.start % 2 ^ size ≠ 0) ∨ (k = 9 ∧ y.start % 2 ^ size ≠ 0) ∨
  RangeCheckFails x y count (2 ^ size) (if mode = 2 then min length count else count) k ∨
  (k = 12 ∧ field (l.arg 6) 9 1 = 1 ∧ 64 ≤ field (l.arg 6) 0 8) ∨
  (k = 13 ∧ field (l.arg 7) 0 2 = 3) ∨ (k = 14 ∧ 6 ≤ field (l.arg 7) 2 3) ∨
  (k = 15 ∧ field (l.arg 7) 5 2 = 3)

/-! ### Units under way (R1, R50, R51, R60, R61, R72) -/

/-- The unit of an engine that is not IDLE. -/
def Engine.unit (g : Engine) : Option Work :=
  match g.phase with
  | .idle => none
  | .running w => some w
  | .stopping w _ => some w

/-- The report ends its engine's unit: a unit-end report or a stop report. -/
def ReportBody.ends : ReportBody → Bool
  | .faulted => false
  | _ => true

/-- The channel has a program with at least `n` elements remaining. -/
def Channel.remains (c : Channel) (n : Nat) : Prop := ∃ ld, c.loaded = some ld ∧ n ≤ ld.remaining

/-- A program and its progress stay in the ranges of Table 1-1. READY, RUNNING, STOPPING and FAULTED
have an element remaining (R1), and so has a parked channel that is to be READY or FAULTED. Each engine
that is not IDLE serves a channel of its own that is RUNNING or STOPPING, with an element of its unit
unconfirmed and the unit within the elements remaining (R51, R61); the report that ends the unit finds
the channel so, with no engine and no other such report about it. A stop leaves an element (R72). -/
structure State.UnitsSound (s : State) : Prop where
  program : ∀ ch ld, (s.channel ch).loaded = some ld →
    ld.remaining ≤ ld.program.count ∧ ld.program.count ≤ 16777215 ∧
      ∀ n, ld.program.mode = .block n → 1 ≤ n ∧ n ≤ 255
  remaining : ∀ ch, (s.channel ch).state ∈ [ChannelState.ready, .running, .stopping, .faulted] →
    (s.channel ch).remains 1
  parked : ∀ ch, (s.channel ch).afterState ∈ [some AfterState.ready, some .faulted] →
    (s.channel ch).remains 1
  serving : ∀ e w, (s.engine e).unit = some w →
    (s.channel w.channel).state ∈ [ChannelState.running, .stopping] ∧
      w.confirmed < w.elements ∧ (s.channel w.channel).remains w.elements
  servedOnce : ∀ e f w x, (s.engine e).unit = some w → (s.engine f).unit = some x →
    w.channel = x.channel → e = f
  ended : ∀ r ∈ s.wires.reports, r.body.ends = true →
    (s.channel r.channel).state ∈ [ChannelState.running, .stopping] ∧
      ∀ e w, (s.engine e).unit = some w → w.channel ≠ r.channel
  endedOnce : s.wires.reports.Pairwise fun x y =>
    x.body.ends = true → y.body.ends = true → x.channel ≠ y.channel
  unitEnds : ∀ ch r o, ⟨ch, .unitEnd r o⟩ ∈ s.wires.reports → (s.channel ch).remains r.done
  stops : ∀ ch r c, ⟨ch, .stop r c⟩ ∈ s.wires.reports → (s.channel ch).remains (r.done + 1)

/-! ### Whole blocks -/

/-- Channel records, run queues and skip counters together. -/
def State.RecordsSound (s : State) : Prop := s.ChannelsSound ∧ s.QueuesSound ∧ s.SkipsSound

/-- The Aperture Units and Bus Masters of both domains together. -/
def State.DomainsSound (s : State) : Prop := s.BusesSound ∧ ∀ d, s.UsersSound d

/-- Every condition of this file that every step keeps. -/
def State.Sound (s : State) : Prop :=
  s.RecordsSound ∧ s.LinesSound ∧ s.OffersSound ∧ s.PoolSound ∧ s.DomainsSound ∧ s.NoticesSound ∧
    s.ParkingSound ∧ s.UnitsSound

end Sys2Proof.Machine
end

