-- ==== Sys2Proof/Certificates/Slice0/Obligations.lean ====
section
/-! DEFINITION. What is claimed of the hub, for the provers. A statement about a command names the
command handed over, the state it meets, and the whole state it leaves: `{ s with … }` is also the
frame, since every field not named there is as it was. -/

open Sys2Proof Sys2Proof.Machine

/-! ### The machine -/

/-- A step runs the command at the front of the queue on the state with the queue's rest; with no
command waiting the hub idles and one microsecond of the reference clock passes. The queue and the
idle step are the model's own (log entries 1 and 3). -/
def Obligations.StepRunsFrontCommandOrIdles : Prop :=
  (∀ (c : Instr) (rest : List Instr) (s : State),
    step { s with pending := c :: rest } = exec c { s with pending := rest }) ∧
  ∀ s : State, s.pending = [] → step s = .next { s with clock := s.clock + 1 }

/-- Every command answers a next state: nothing stops the hub. The schedule is left alone, the levels of
the request and reset inputs change by their own pins alone, and the clock never goes back. It is the
model's choice that a happening not due answers a next state and that no command changes the schedule
(log entry 1), that power-on reset keeps inputs, clock and schedule (log entry 24), and that an expiry
alone moves the clock forward (log entry 4). -/
def Obligations.EveryCommandCompletes : Prop :=
  ∀ (c : Instr) (s : State), ∃ t, exec c s = .next t ∧ t.pending = s.pending ∧ s.clock ≤ t.clock ∧
    t.req =
      (match c with
      | .reqAsserted l => s.req.put l true
      | .reqDeasserted l => s.req.put l false
      | _ => s.req) ∧
    t.prst =
      (match c with
      | .prstxAsserted p => s.prst.set p true
      | .prstxReleased p => s.prst.set p false
      | _ => s.prst)

/-- The registers of a window change by the writes of their own host, by answers and by power-on reset
alone (R159–R162), so nothing the peer does reaches them: an argument register by REGISTER_WRITE, CMD
by a write of CMD, the enable by a write of INTEN, and the results and the result code only in a
happening that takes the unit from BUSY to IDLE: never while it stays BUSY, never while it is IDLE. -/
def Obligations.WindowBelongsToItsPort : Prop :=
  ∀ (c : Instr) (s t : State) (p : Port), exec c s = .next t → c ≠ .powerOnReset →
    ((∀ offset value, c ≠ .registerWrite p offset value) → (t.port p).args = (s.port p).args) ∧
    ((∀ code, c ≠ .commandLatch p code ∧ c ≠ .cmdWriteDropped p code) →
      (t.port p).cmd = (s.port p).cmd) ∧
    ((∀ value, c ≠ .intenWrite p value) → (t.noticeUnit p).enable = (s.noticeUnit p).enable) ∧
    ((t.port p).latched.isSome ∨ (s.port p).latched = none →
      (t.port p).res = (s.port p).res ∧ (t.port p).result = (s.port p).result)

/-- Nothing that a teardown takes from a port comes back while the port is not ONLINE (R156): it gains
no channel, no line, no open aperture and no notice, whatever any block or the peer does. -/
def Obligations.PortNotOnlineGainsNothing : Prop :=
  ∀ (c : Instr) (s t : State) (p : Port), s.online p = false → exec c s = .next t →
    (∀ ch, (t.channel ch).owner = some p → (s.channel ch).owner = some p) ∧
    (∀ l ch, (t.line l).mapping = some ⟨ch, p⟩ → (s.line l).mapping = some ⟨ch, p⟩) ∧
    (∀ i, (t.aperture p i).state = .open → (s.aperture p i).state = .open) ∧
    ((t.noticeUnit p).queue = (s.noticeUnit p).queue ∨ (t.noticeUnit p).queue = []) ∧
    ((t.noticeUnit p).deferred = (s.noticeUnit p).deferred ∨ (t.noticeUnit p).deferred = []) ∧
    ∀ x ∈ (t.noticeUnit p).parking, x ∈ (s.noticeUnit p).parking

/-- Power-on reset leaves every block at the values the spec states, whatever it finds (R2, R30, R38,
R49, R75, R88, R107, R136, R148, R159), and the state after reset has the same. That every hand-off
under way is abandoned with it, the last clause, is the model's choice (log entry 24). -/
def Obligations.PowerOnResetValues : Prop :=
  ∀ s : State, ∃ t, exec .powerOnReset s = .next t ∧ ∀ u ∈ [t, State.reset],
    (∀ ch, u.channel ch = ⟨none, .free, none, 0, none, false, none, none, none, none⟩) ∧
    u.trigger = ⟨[], [], [], 0, 0⟩ ∧
    (∀ l, (u.line l).state = .unmapped ∧ (u.line l).mapping = none ∧ ackLevel u l = false) ∧
    (∀ e, (u.engine e).phase = .idle ∧ (u.engine e).outstanding = [] ∧
      ∀ d, (u.engine e).offers.get d = none ∧ (u.engine e).admission.get d = none) ∧
    (∀ e, u.poolEngine e = ⟨[], none, .none⟩) ∧ u.pool.waiting = [] ∧
    u.pool.free.map (fun x => x.val) = List.range' 8 120 ∧
    (∀ d i, u.aperture d i = ⟨.closed, none, 0, 0⟩) ∧
    (∀ d, u.master d = ⟨.open, [], 0, 1000, 3, none⟩) ∧
    (∀ p, u.noticeUnit p = ⟨[], [], [], 0, false⟩ ∧ intLevel u p = false) ∧
    (∀ p, (u.port p).session = .offline ∧ (u.port p).cmd = 0 ∧ (u.port p).latched = none ∧
      (u.port p).result = .ok ∧ (u.port p).dropped = false ∧ (∀ i, (u.port p).args.row i = 0) ∧
      ∀ i, (u.port p).res.row i = 0) ∧
    u.wires = .empty

/-- The state after reset meets every condition of Safety.lean. -/
def Obligations.ResetIsSound : Prop := State.reset.Sound

/-! ### What every step keeps -/

/-- Channel records, run queues and skip counters keep the conditions of R28, R30, R31 and R34, and of R1
all but the elements remaining (UnitsStayInStep): only eligible channels stand in a queue, that of their
class, each once. And every eligible channel
stays queued (R30), but for the one that a POP_NOTICE releases from parking, which was POSTING and joins
by RUN_QUEUE_JOIN (R144; that every other join is made in the happening that makes the channel eligible
is the model's reading, log entry 14). -/
def Obligations.RecordsAndQueuesStaySound : Prop :=
  (∀ s t : State, s.RecordsSound → step s = .next t → t.RecordsSound) ∧
  ∀ (c : Instr) (s t : State), s.RecordsSound → s.EligibleQueued → exec c s = .next t →
    ((∀ p, c ≠ .popNotice p) → t.EligibleQueued) ∧
    ∀ ch, (t.channel ch).eligible = true →
      (∃ k, ch ∈ t.trigger.queue k) ∨ (s.channel ch).state = .posting

/-- A line and its channel keep naming each other, and a pending trigger keeps standing in the
channel's PENDING line (R38, R40, R41). -/
def Obligations.LinesAndChannelsStayMutual : Prop :=
  ∀ s t : State, s.RecordsSound → s.LinesSound → step s = .next t → t.LinesSound

/-- Every staging line stays in one place, free or held by one engine, with reserve lines at their own
engine (R75); an engine stays within its limit, and the Line Wait List holds each engine with a LISTED
request once (R76, R80). What stands at a Bus Master stays what the engine's progress offers there: of
a RUNNING engine with nothing under admission there, the write at its write position when every byte it
covers is read, else the read at its read position when its room is given (R55–R57). That an offer
stands from the write of the engine's record on is the model's choice (log entry 12), and that the bytes
read are a prefix is its form (log entry 11). -/
def Obligations.StagingLinesStayPartitioned : Prop :=
  (∀ s t : State, step s = .next t →
    (s.PoolSound → t.PoolSound) ∧ (s.OffersSound → t.OffersSound)) ∧
  ∀ (s : State) (e : EngineNo) (d : Domain), s.OffersSound →
    let offer := (s.engine e).offers.get d
    ((∀ w, (s.engine e).phase ≠ .running w) → offer = none) ∧
    ((s.engine e).admission.get d ≠ none → offer = none) ∧
    ∀ w, (s.engine e).phase = .running w → (s.engine e).admission.get d = none →
      let b := w.size.bytes
      let write := w.dst.txn .write b w.elements w.writePos
      let read := w.src.txn .read b w.elements w.readPos
      let writeReady :=
        w.dst.domain = d ∧ w.writePos < w.dst.txnCount b w.elements ∧
          (write.first + write.elems) * b ≤ w.readBytes
      let readReady :=
        w.src.domain = d ∧ w.readPos < w.src.txnCount b w.elements ∧ w.room = true
      (writeReady → offer = some write) ∧
      (¬writeReady → readReady → offer = some read) ∧
      (¬writeReady → ¬readReady → offer = none)

/-- A bus list stays within its 16 places with its states in step, and the users counts of a domain
stay equal to the entries, admissions and ends they stand for (R88, R100, R107). -/
def Obligations.BusesAndUsersStayInStep : Prop :=
  ∀ s t : State, step s = .next t →
    (s.BusesSound → t.BusesSound) ∧ ((∀ d, s.UsersSound d) → ∀ d, t.UsersSound d)

/-- A Notice Unit stays within its room, with sequence numbers rising by one (R136–R140); and a channel
stays in its owner's Parking List exactly while it is POSTING (R143). -/
def Obligations.NoticesStayInSequence : Prop :=
  ∀ s t : State, step s = .next t →
    (s.NoticesSound → t.NoticesSound) ∧
    (s.RecordsSound → s.ParkingSound → t.ParkingSound)

/-! ### Channel commands (Chapters 1, 2 and 7) -/

/-- The checks of R3 in their order, for the commands that name one of the port's channels, and for
CLAIM and READ_CHANNEL the two of them that do not ask for the owner; and whatever check refuses a
command, nothing but the answer changes (R3, R161). -/
def Obligations.ChecksComeInOrderAndRefuse : Prop :=
  (∀ (s : State) (p : Port) (l : Latched) (rest : List Latched) (c : Instr) (code : Nat),
    (c, code) ∈
      ([(.claim p, 0x10), (.release p, 0x11), (.load p, 0x12), (.readChannel p, 0x13),
        (.start p, 0x20), (.abort p, 0x21), (.resume p, 0x22)] : List (Instr × Nat)) →
    s.handedOver p code l rest →
    (s.online p = false → exec c s = .next (s.taken p l rest (.plain .notOnline))) ∧
    (s.online p = true → 64 ≤ l.arg 0 → exec c s = .next (s.taken p l rest (.plain .badChannel))) ∧
    (s.online p = true → code ≠ 0x10 → code ≠ 0x13 → ∀ ch : ChannelNo, l.arg 0 = ch.val →
      (s.channel ch).owner ≠ some p → exec c s = .next (s.taken p l rest (.plain .notOwner)))) ∧
  ∀ (s t : State) (p : Port) (l : Latched) (rest : List Latched) (c : Instr) (r : Reply),
    c ∈
      ([.claim p, .release p, .load p, .readChannel p, .queryTable p, .start p, .abort p, .resume p,
        .mapLine p, .unmapLine p, .openAperture p, .revokeAperture p, .queryAperture p,
        .setResponseLimit p, .clearBus p, .popNotice p] : List Instr) →
    s.wires.handed.get p = l :: rest → exec c s = .next t →
    t.wires.answers.get p = s.wires.answers.get p ++ [⟨l.cycle, r⟩] →
    r.code ≠ .ok → r.code ≠ .accepted → t = s.taken p l rest r

/-- CLAIM makes a FREE channel the issuing port's own and IDLE, and answers OWNED for any other, the
port's own included; no run queue and no line changes (R4). -/
def Obligations.ClaimTakesFreeChannel : Prop :=
  ∀ (s : State) (p : Port) (l : Latched) (rest : List Latched) (ch : ChannelNo),
    s.handedOver p 0x10 l rest → s.online p = true → l.arg 0 = ch.val →
    exec (.claim p) s =
      .next
        (if (s.channel ch).state = .free then
          { s.taken p l rest (.plain .ok) with
            channels :=
              s.channels.put ch ⟨some p, .idle, none, 0, none, false, none, none, none, none⟩ }
        else s.taken p l rest (.plain .owned))

/-- RELEASE frees an IDLE, READY or FAULTED channel: it leaves its run queue, its line is UNMAPPED with
ACK deasserted, and the record takes the values of a FREE channel; in RUNNING, STOPPING and POSTING the
answer is WRONG_STATE (R5, R47). The two conditions on line and parking hold in every sound state. -/
def Obligations.ReleaseFreesChannel : Prop :=
  ∀ (s : State) (p : Port) (l : Latched) (rest : List Latched) (ch : ChannelNo),
    s.handedOver p 0x11 l rest → s.online p = true → l.arg 0 = ch.val →
    (s.channel ch).owner = some p →
    (∀ n, (s.channel ch).mappedLine = some n → (s.line n).mapping = some ⟨ch, p⟩) →
    (∀ x ∈ (s.noticeUnit p).parking, x.channel = ch → (s.channel ch).state = .posting) →
    exec (.release p) s =
      .next
        (if (s.channel ch).state ∈ [ChannelState.idle, .ready, .faulted] then
          { s.taken p l rest (.plain .ok) with
            channels := s.channels.put ch ⟨none, .free, none, 0, none, false, none, none, none, none⟩
            trigger := if (s.channel ch).eligible then s.trigger.leave ch else s.trigger
            lines :=
              match (s.channel ch).mappedLine with
              | some n => s.lines.put n { s.line n with state := .unmapped, mapping := none }
              | none => s.lines }
        else s.taken p l rest (.plain .wrongState))

/-- LOAD refuses a channel that is not IDLE, FAULTED or READY without a trigger, and then answers
BAD_FIELD with the number of the first of the sixteen checks that fails, the record unchanged (R6–R9,
Tables 1-4 and 10-5). -/
def Obligations.LoadReportsFirstFailingCheck : Prop :=
  ∀ (s : State) (p : Port) (l : Latched) (rest : List Latched) (ch : ChannelNo),
    s.handedOver p 0x12 l rest → s.online p = true → l.arg 0 = ch.val →
    (s.channel ch).owner = some p →
    (¬((s.channel ch).state = .idle ∨ (s.channel ch).state = .faulted ∨
        ((s.channel ch).state = .ready ∧ (s.channel ch).credit = 0 ∧
          (s.channel ch).linePending = false)) →
      exec (.load p) s = .next (s.taken p l rest (.plain .wrongState))) ∧
    (((s.channel ch).state = .idle ∨ (s.channel ch).state = .faulted ∨
        ((s.channel ch).state = .ready ∧ (s.channel ch).credit = 0 ∧
          (s.channel ch).linePending = false)) →
      ∀ k, LoadCheckFails l k → (∀ m, m < k → ¬LoadCheckFails l m) →
        exec (.load p) s = .next (s.taken p l rest (.badField k)))

/-- A LOAD whose checks all pass makes the channel READY with the program of the argument block, the
progress at its start, credit 0 and no fault record; a mapped line with a standing request then takes
its trigger (R10). The fields of the program are read back through its codes (Table 10-5). That no line
is pending holds in every sound state. -/
def Obligations.LoadReplacesProgram : Prop :=
  ∀ (s : State) (p : Port) (l : Latched) (rest : List Latched) (ch : ChannelNo),
    s.handedOver p 0x12 l rest → s.online p = true → l.arg 0 = ch.val →
    (s.channel ch).owner = some p →
    ((s.channel ch).state = .idle ∨ (s.channel ch).state = .faulted ∨
      ((s.channel ch).state = .ready ∧ (s.channel ch).credit = 0 ∧
        (s.channel ch).linePending = false)) →
    (s.channel ch).linePending = false →
    (∀ k, ¬LoadCheckFails l k) →
    ∃ q : Program,
      q.mode.value = field (l.arg 1) 0 2 ∧ q.mode.blockLength = l.arg 5 ∧
      q.size.bytes = 2 ^ field (l.arg 1) 2 3 ∧
      q.src.step.value = field (l.arg 1) 5 3 ∧ q.dst.step.value = field (l.arg 1) 8 3 ∧
      domainValue q.src.domain = field (l.arg 1) 11 1 ∧
      domainValue q.dst.domain = field (l.arg 1) 12 1 ∧
      q.src.start = l.args.row 2 ∧ q.dst.start = l.args.row 3 ∧ q.count = l.arg 4 ∧
      (q.link.isSome ↔ field (l.arg 6) 9 1 = 1) ∧
      (∀ k, q.link = some k →
        k.target.val = field (l.arg 6) 0 8 ∧ k.condition.value = field (l.arg 6) 8 1) ∧
      q.cls.value = field (l.arg 7) 0 2 ∧ q.readAhead.value = field (l.arg 7) 2 3 ∧
      q.policy.value = field (l.arg 7) 5 2 ∧
      exec (.load p) s =
        .next
          (({ s.taken p l rest (.plain .ok) with
              channels :=
                s.channels.put ch
                  { s.channel ch with
                    state := .ready, credit := 0, fault := none
                    loaded := some ⟨q, q.src.start, q.dst.start, q.count⟩ } } : State).channelAble ch)

/-- The PROGRAM view of READ_CHANNEL gives the argument block back (R12, R165, Tables 10-5 and 10-6): for
every block that passes the checks of LOAD, each register of the answer holds the fields that were
loaded, so no bit of an encoding is dropped on the way in or out. -/
def Obligations.ProgramViewGivesBlockBack : Prop :=
  ∀ (l : Latched) (q : Program) (s : State) (p : Port) (m : Latched) (rest : List Latched)
      (ch : ChannelNo), loadProgram l.args = .ok q →
    s.handedOver p 0x13 m rest → s.online p = true → m.arg 0 = ch.val → m.arg 1 = 1 →
    (s.channel ch).owner = some p → (∃ x y n, (s.channel ch).loaded = some ⟨q, x, y, n⟩) →
    ∃ v : Table Word 4,
      exec (.readChannel p) s = .next (s.taken p m rest ⟨.ok, v⟩) ∧
      (v.row 0).toNat =
        field (l.arg 1) 0 2 + 2 ^ 2 * field (l.arg 1) 2 3 + 2 ^ 5 * field (l.arg 1) 5 3
          + 2 ^ 8 * field (l.arg 1) 8 3 + 2 ^ 11 * field (l.arg 1) 11 1
          + 2 ^ 12 * field (l.arg 1) 12 1 + 2 ^ 13 * field (l.arg 7) 0 2
          + 2 ^ 15 * field (l.arg 7) 2 3 + 2 ^ 18 * field (l.arg 7) 5 2 + 2 ^ 20 * l.arg 5
          + 2 ^ 31 ∧
      v.row 1 = l.args.row 2 ∧ v.row 2 = l.args.row 3 ∧
      (v.row 3).toNat =
        l.arg 4
          + field (l.arg 6) 9 1
            * (2 ^ 24 * field (l.arg 6) 0 8 + 2 ^ 30 * field (l.arg 6) 8 1 + 2 ^ 31)

/-- READ_CHANNEL answers BAD_FIELD 1 for a view above 2, and otherwise OK with the view; the STATUS view
shows an owner every field in its place, absent fields with their presence bit clear, the PROGRAM view
shows it the program, the FAULT view the fault record, each all 0 where there is none; and any other
port receives owner and state alone (R12, R165, Table 10-6). The bounds on credit, block length and
count are those of R28 and R7. -/
def Obligations.ReadChannelShowsRecord : Prop :=
  ∀ (s : State) (p : Port) (l : Latched) (rest : List Latched) (ch : ChannelNo),
    s.handedOver p 0x13 l rest → s.online p = true → l.arg 0 = ch.val →
    (s.channel ch).credit ≤ 15 →
    (2 < l.arg 1 → exec (.readChannel p) s = .next (s.taken p l rest (.badField 1))) ∧
    (l.arg 1 ≤ 2 → ∃ r : Table Word 4,
      exec (.readChannel p) s = .next (s.taken p l rest ⟨.ok, r⟩) ∧
      let c := s.channel ch
      let x := (r.row 0).toNat
      (c.owner ≠ some p →
        x = c.state.value + 8 * ownerValue c.owner ∧ r.row 1 = 0 ∧ r.row 2 = 0 ∧ r.row 3 = 0) ∧
      (c.owner = some p → l.arg 1 = 0 →
        field x 0 3 = c.state.value ∧ field x 3 2 = ownerValue c.owner ∧ field x 5 4 = c.credit ∧
        field x 9 1 = flag c.linePending ∧
        (field x 14 1 = flag c.mappedLine.isSome ∧ ∀ n, c.mappedLine = some n → field x 10 4 = n.val) ∧
        (field x 17 1 = flag c.afterState.isSome ∧
          ∀ a, c.afterState = some a → field x 15 2 = a.value) ∧
        (field x 19 1 = flag c.origin.isSome ∧ ∀ o, c.origin = some o → field x 18 1 = o.value) ∧
        field x 20 1 = flag c.loaded.isSome ∧ field x 21 1 = flag c.fault.isSome ∧
        field x 22 10 = 0 ∧
        (∀ d, c.loaded = some d →
          r.row 1 = d.curSrc ∧ r.row 2 = d.curDst ∧ (r.row 3).toNat = d.remaining % 2 ^ 32) ∧
        (c.loaded = none → r.row 1 = 0 ∧ r.row 2 = 0 ∧ r.row 3 = 0)) ∧
      (c.owner = some p → l.arg 1 = 1 →
        (c.loaded = none → ∀ i, r.row i = 0) ∧
        ∀ d, c.loaded = some d → d.program.mode.blockLength ≤ 255 → d.program.count < 2 ^ 24 →
          let q := d.program
          x = q.mode.value + 4 * q.size.value + 32 * q.src.step.value + 256 * q.dst.step.value
              + 2 ^ 11 * domainValue q.src.domain + 2 ^ 12 * domainValue q.dst.domain
              + 2 ^ 13 * q.cls.value + 2 ^ 15 * q.readAhead.value + 2 ^ 18 * q.policy.value
              + 2 ^ 20 * q.mode.blockLength + 2 ^ 31 ∧
          r.row 1 = q.src.start ∧ r.row 2 = q.dst.start ∧
          (r.row 3).toNat =
            q.count +
              (match q.link with
              | some k => 2 ^ 24 * k.target.val + 2 ^ 30 * k.condition.value + 2 ^ 31
              | none => 0)) ∧
      (c.owner = some p → l.arg 1 = 2 →
        (c.fault = none → ∀ i, r.row i = 0) ∧
        ∀ f, c.fault = some f →
          x = 1 + 2 * f.kind.value + 16 * domainValue f.domain + 32 * flag f.collateral ∧
          r.row 1 = f.address ∧ (r.row 2).toNat = f.index % 2 ^ 32 ∧ r.row 3 = 0))

/-- QUERY_TABLE answers OK with two maps of 64 entries: entry n of the first is set when channel n is
FREE, entry n of the second when the issuing port owns it, whatever its state (R13, Table 10-7). -/
def Obligations.QueryTableMapsFreeAndOwned : Prop :=
  ∀ (s : State) (p : Port) (l : Latched) (rest : List Latched),
    s.handedOver p 0x14 l rest →
    (s.online p = false → exec (.queryTable p) s = .next (s.taken p l rest (.plain .notOnline))) ∧
    (s.online p = true → ∃ r : Table Word 4,
      exec (.queryTable p) s = .next (s.taken p l rest ⟨.ok, r⟩) ∧
      ∀ ch : ChannelNo,
        ((if ch.val < 32 then r.row 0 else r.row 1).getLsbD (ch.val % 32) = true ↔
          (s.channel ch).state = .free) ∧
        ((if ch.val < 32 then r.row 2 else r.row 3).getLsbD (ch.val % 32) = true ↔
          (s.channel ch).owner = some p))

/-- READ_ENGINES: the Port Command Unit asks the five blocks, each block sends its part as it stands,
and the last part to come back brings the answer, which shows each engine's state, its channel as the
issuing port may see it, and its lines held; parts of another cycle are discarded (R74, Table 10-7).
The parts gathered are complete exactly when all four engines' parts and the pool's part are there, each
shown in its place. The two kinds of happening at the unit are the model's reading (log entry 22), and
that of two requests from one port to one block the oldest is taken first is the model's choice (log
entry 42). -/
def Obligations.ReadEnginesGathersFiveParts : Prop :=
  (∀ (s : State) (p : Port) (l : Latched) (rest : List Latched), s.handedOver p 0x15 l rest →
    exec (.readEngines p .ask) s =
      .next
        { s with
          ports := s.ports.set p { s.port p with gather := some ⟨l.cycle, .fill 4 none, none⟩ }
          wires :=
            { s.wires with
              handed := s.wires.handed.set p rest
              asks :=
                s.wires.asks.set p
                  (s.wires.asks.get p ++
                    [⟨l.cycle, .engine 0⟩, ⟨l.cycle, .engine 1⟩, ⟨l.cycle, .engine 2⟩,
                      ⟨l.cycle, .engine 3⟩, ⟨l.cycle, .pool⟩]) } }) ∧
  (∀ (s : State) (p : Port) (src : PartSource) (before after : List EnginesAsk) (cycle : Nat),
    s.wires.asks.get p = before ++ ⟨cycle, src⟩ :: after → (∀ x ∈ before, x.source ≠ src) →
    ∃ b : PartBody,
      exec (.readEnginesPart p src) s =
        .next
          { s with
            wires :=
              { s.wires with
                asks := s.wires.asks.set p (before ++ after)
                parts := s.wires.parts.set p (s.wires.parts.get p ++ [⟨cycle, b⟩]) } } ∧
      (src = .pool → b = .pool s.pool.free.length) ∧
      ∀ e, src = .engine e → ∃ v, b = .engine e v ∧ v.linesHeld = (s.poolEngine e).held.length ∧
        (match (s.engine e).phase with
        | .idle => v.state = .idle ∧ v.served = .absent
        | .running w =>
          v.state = .running ∧ v.served = if w.owner = p then .own w.channel else .other
        | .stopping w _ =>
          v.state = .stopping ∧ v.served = if w.owner = p then .own w.channel else .other)) ∧
  (∀ g : Gather,
    (∀ e v, g.add (.engine e v) = { g with engines := g.engines.put e (some v) }) ∧
    (∀ n, g.add (.pool n) = { g with pool := some n }) ∧
    ∀ v n, g.complete = some (v, n) ↔ (∀ e, g.engines.row e = some (v.row e)) ∧ g.pool = some n) ∧
  ∀ (s : State) (p : Port) (before after : List EnginesPart) (x : EnginesPart) (g : Gather)
      (l : Latched),
    s.wires.parts.get p = before ++ x :: after → (s.port p).gather = some g →
    (s.port p).latched = some l → g.cycle = l.cycle →
    ∃ t, exec (.readEngines p (.part before.length)) s =
        .next { t with
          wires := { s.wires with parts := s.wires.parts.set p (before ++ after) } } ∧
      (x.cycle ≠ g.cycle → t = s) ∧
      (x.cycle = g.cycle → (g.add x.body).complete = none →
        t = { s with ports := s.ports.set p { s.port p with gather := some (g.add x.body) } }) ∧
      (x.cycle = g.cycle → ∀ v n, (g.add x.body).complete = some (v, n) →
        t = { s with
          ports :=
            s.ports.set p
              { s.port p with
                gather := none
                latched := none
                result := if s.online p then .ok else .notOnline
                res :=
                  if s.online p then
                    results
                      (place 0 (v.row 0).state.value ||| place 2 (v.row 0).served.value
                        ||| place 10 (v.row 0).linesHeld ||| place 24 n)
                      (place 0 (v.row 1).state.value ||| place 2 (v.row 1).served.value
                        ||| place 10 (v.row 1).linesHeld)
                      (place 0 (v.row 2).state.value ||| place 2 (v.row 2).served.value
                        ||| place 10 (v.row 2).linesHeld)
                      (place 0 (v.row 3).state.value ||| place 2 (v.row 3).served.value
                        ||| place 10 (v.row 3).linesHeld)
                  else results 0 0 0 0 } })

/-- A write of a channel record moves the channel in the run queues within the same happening, and only
when it changes whether the channel is eligible: it joins the tail of the queue of its loaded class, or
leaves from wherever it stands, the others in their order (R14, R30, R31). A channel released from
parking joins by RUN_QUEUE_JOIN in the same way (R144; log entry 14). -/
def Obligations.EligibilityMovesRunQueues : Prop :=
  (∀ (s : State) (ch : ChannelNo) (c : Channel), s.RecordsSound →
    (s.writeChannel ch c).channels = s.channels.put ch c ∧
    ((s.channel ch).eligible = c.eligible → (s.writeChannel ch c).trigger = s.trigger) ∧
    ((s.channel ch).eligible = false → c.eligible = true → ∀ d, c.loaded = some d → ∀ k,
      (s.writeChannel ch c).trigger.queue k =
        if k = d.program.cls then s.trigger.queue k ++ [ch] else s.trigger.queue k) ∧
    ((s.channel ch).eligible = true → c.eligible = false → ∀ k,
      (s.writeChannel ch c).trigger.queue k = (s.trigger.queue k).filter (· ≠ ch))) ∧
  ∀ (s : State) (ch : ChannelNo) (d : Loaded),
    (s.channel ch).eligible = true → (s.channel ch).loaded = some d →
    (∀ k, ch ∉ s.trigger.queue k) →
    exec (.runQueueJoin ch) s =
      .next { s with
        trigger := s.trigger.setQueue d.program.cls (s.trigger.queue d.program.cls ++ [ch]) }

/-- START adds one credit in READY, RUNNING and POSTING, is answered CREDIT_FULL at 15, and WRONG_STATE
in every other state (R28). In READY a channel that held no trigger joins the tail of its class's
queue; one that held a trigger keeps its place. -/
def Obligations.StartAddsOneCredit : Prop :=
  ∀ (s : State) (p : Port) (l : Latched) (rest : List Latched) (ch : ChannelNo),
    s.handedOver p 0x20 l rest → s.online p = true → l.arg 0 = ch.val →
    (s.channel ch).owner = some p → s.RecordsSound →
    let c := s.channel ch
    let added : State :=
      { s.taken p l rest (.plain .ok) with
        channels := s.channels.put ch { c with credit := c.credit + 1 } }
    (c.state ∉ [ChannelState.ready, .running, .posting] →
      exec (.start p) s = .next (s.taken p l rest (.plain .wrongState))) ∧
    (c.state ∈ [ChannelState.ready, .running, .posting] → c.credit = 15 →
      exec (.start p) s = .next (s.taken p l rest (.plain .creditFull))) ∧
    (c.state ∈ [ChannelState.ready, .running, .posting] → c.credit < 15 →
      (c.state = .ready → c.credit = 0 → c.linePending = false → ∀ d, c.loaded = some d →
        exec (.start p) s =
          .next { added with
            trigger :=
              s.trigger.setQueue d.program.cls (s.trigger.queue d.program.cls ++ [ch]) }) ∧
      (¬(c.state = .ready ∧ c.credit = 0 ∧ c.linePending = false) →
        exec (.start p) s = .next added))

/-- ABORT by the state it finds (R127–R129, Table 7-2): READY goes IDLE without its trigger, its line
back to WAITING without ACK; RUNNING goes STOPPING with the cause on its way and the answer ACCEPTED;
STOPPING is answered ACCEPTED; POSTING keeps its notice with after-state IDLE; FAULTED goes IDLE; IDLE
stays. Progress and fault record stay. -/
def Obligations.AbortActsByState : Prop :=
  ∀ (s : State) (p : Port) (l : Latched) (rest : List Latched) (ch : ChannelNo),
    s.handedOver p 0x21 l rest → s.online p = true → l.arg 0 = ch.val →
    (s.channel ch).owner = some p →
    ((s.channel ch).linePending = true →
      ∃ n, (s.channel ch).mappedLine = some n ∧ (s.line n).state = .pending) →
    let c := s.channel ch
    let put := fun (r : ResultCode) (x : Channel) =>
      ({ s.taken p l rest (.plain r) with channels := s.channels.put ch x } : State)
    exec (.abort p) s =
      .next
        (match c.state with
        | .free => s.taken p l rest (.plain .notOwner)
        | .idle => s.taken p l rest (.plain .ok)
        | .ready =>
          { put .ok { c with state := .idle, credit := 0, linePending := false } with
            trigger :=
              if 0 < c.credit ∨ c.linePending = true then s.trigger.leave ch else s.trigger
            lines :=
              match c.linePending, c.mappedLine with
              | true, some n => s.lines.put n { s.line n with state := .waiting }
              | _, _ => s.lines }
        | .running =>
          { put .accepted { c with state := .stopping } with
            wires :=
              { (s.taken p l rest (.plain .accepted)).wires with
                causes := s.wires.causes ++ [⟨ch, .abort⟩] } }
        | .stopping => s.taken p l rest (.plain .accepted)
        | .posting => put .ok { c with afterState := some .idle, credit := 0 }
        | .faulted => put .ok { c with state := .idle })

/-- RESUME is taken in FAULTED alone. It makes checks 10, 11 and 16 of LOAD for the rest of the program
from the current addresses, and then makes the channel READY with progress and fault record kept,
credit 0 and no line pending; a mapped line with a standing request takes its trigger in the same
happening (R131, R132). -/
def Obligations.ResumeChecksTheRest : Prop :=
  ∀ (s : State) (p : Port) (l : Latched) (rest : List Latched) (ch : ChannelNo),
    s.handedOver p 0x22 l rest → s.online p = true → l.arg 0 = ch.val →
    (s.channel ch).owner = some p →
    let c := s.channel ch
    (c.state ≠ .faulted → exec (.resume p) s = .next (s.taken p l rest (.plain .wrongState))) ∧
    (c.state = .faulted → ∀ d, c.loaded = some d →
      let q := d.program
      let fails := RangeCheckFails
        ⟨domainValue q.src.domain, q.src.step.value, d.curSrc.toNat⟩
        ⟨domainValue q.dst.domain, q.dst.step.value, d.curDst.toNat⟩
        d.remaining q.size.bytes
        (if q.mode.value = 2 then min q.mode.blockLength d.remaining else d.remaining)
      (∀ k, fails k → (∀ m, m < k → ¬fails m) →
        exec (.resume p) s = .next (s.taken p l rest (.badField k))) ∧
      ((∀ k, ¬fails k) →
        exec (.resume p) s =
          .next
            (({ s.taken p l rest (.plain .ok) with
                channels :=
                  s.channels.put ch
                    { c with state := .ready, credit := 0, linePending := false } } :
              State).channelAble ch)))

/-! ### Request lines (Chapter 2) -/

/-- MAP_LINE makes its six checks in order, joins an UNMAPPED line to a channel of the port that has
none, and a standing request takes its trigger at once; UNMAP_LINE makes its three checks in order and
separates them: the line is UNMAPPED with ACK deasserted, the channel has no mapped line and no pending
trigger, and it leaves its run queue when that trigger alone made it eligible (R45, R46). -/
def Obligations.LinesAreMappedAndUnmapped : Prop :=
  (∀ (s : State) (p : Port) (l : Latched) (rest : List Latched), s.handedOver p 0x28 l rest →
    let refuse := fun r : ResultCode => exec (.mapLine p) s = .next (s.taken p l rest (.plain r))
    (s.online p = false → refuse .notOnline) ∧
    (s.online p = true → 16 ≤ l.arg 0 → refuse .badLine) ∧
    (s.online p = true → l.arg 0 < 16 → 64 ≤ l.arg 1 → refuse .badChannel) ∧
    ∀ (n : LineNo) (ch : ChannelNo), s.online p = true → l.arg 0 = n.val → l.arg 1 = ch.val →
      ((s.channel ch).owner ≠ some p → refuse .notOwner) ∧
      ((s.channel ch).owner = some p →
        ((s.line n).state ≠ .unmapped ∨ (s.channel ch).mappedLine.isSome) → refuse .lineTaken) ∧
      ((s.channel ch).owner = some p → (s.line n).state = .unmapped →
        (s.channel ch).mappedLine = none →
        exec (.mapLine p) s =
          .next
            (({ s.taken p l rest (.plain .ok) with
                lines :=
                  s.lines.put n { s.line n with state := .waiting, mapping := some ⟨ch, p⟩ }
                channels := s.channels.put ch { s.channel ch with mappedLine := some n } } :
              State).takeTrigger n))) ∧
  ∀ (s : State) (p : Port) (l : Latched) (rest : List Latched), s.handedOver p 0x29 l rest →
    let refuse := fun r : ResultCode => exec (.unmapLine p) s = .next (s.taken p l rest (.plain r))
    (s.online p = false → refuse .notOnline) ∧
    (s.online p = true → 16 ≤ l.arg 0 → refuse .badLine) ∧
    ∀ n : LineNo, s.online p = true → l.arg 0 = n.val →
      ((∀ ch, (s.line n).mapping ≠ some ⟨ch, p⟩) → refuse .notOwner) ∧
      ∀ ch, (s.line n).mapping = some ⟨ch, p⟩ →
        let c := s.channel ch
        exec (.unmapLine p) s =
          .next
            { s.taken p l rest (.plain .ok) with
              lines := s.lines.put n { s.line n with state := .unmapped, mapping := none }
              channels := s.channels.put ch { c with mappedLine := none, linePending := false }
              trigger :=
                if c.state = .ready ∧ c.credit = 0 ∧ c.linePending = true then s.trigger.leave ch
                else s.trigger }

/-- A WAITING line takes a trigger exactly when REQ is asserted and its channel is READY, RUNNING or
POSTING: the line goes PENDING and line pending is yes. An assertion of REQ and the word that the
channel can take one bring it about alike; in every other state an assertion changes the level alone
(R39, R40). The shared operations by which the other happenings take a standing request, of a line and
of a channel's mapped line, do the same. That the word is a happening of its own, and that the others
take the request in their own happening, is the model's reading (log entry 15). -/
def Obligations.WaitingLineTakesTrigger : Prop :=
  (∀ (s : State) (n : LineNo),
    (∀ m : Mapping, (s.line n).mapping = some m → (s.line n).state = .waiting →
      (s.channel m.channel).state ∈ [ChannelState.ready, .running, .posting] →
      let taken := fun u : State =>
        ({ u with lines := s.lines.put n { s.line n with state := .pending } } : State).writeChannel
          m.channel { s.channel m.channel with linePending := true }
      exec (.reqAsserted n) s = .next (taken { s with req := s.req.put n true }) ∧
      (s.req.row n = true →
        exec (.lineChannelAble n) s = .next (taken s) ∧ s.takeTrigger n = taken s)) ∧
    (((s.line n).mapping = none ∨ (s.line n).state ≠ .waiting ∨
        ∃ m : Mapping, (s.line n).mapping = some m ∧
          (s.channel m.channel).state ∉ [ChannelState.ready, .running, .posting]) →
      exec (.reqAsserted n) s = .next { s with req := s.req.put n true } ∧
      exec (.lineChannelAble n) s = .next s ∧ s.takeTrigger n = s) ∧
    (s.req.row n = false → exec (.lineChannelAble n) s = .next s ∧ s.takeTrigger n = s)) ∧
  ∀ (s : State) (ch : ChannelNo),
    (∀ n, (s.channel ch).mappedLine = some n → s.channelAble ch = s.takeTrigger n) ∧
    ((s.channel ch).mappedLine = none → s.channelAble ch = s)

/-- The acknowledgement of a served unit makes the SERVING line ACKING with ACK asserted, or, with REQ
already deasserted, pulses ACK and leaves the line WAITING; it is ignored unless the line is SERVING
for the named channel (R42). ACKING ends when REQ is deasserted, and a deassertion changes no other
state (R39, R43). The count of assertions is the model's own (log entry 19), and so is it that of two
acknowledgements for one line the oldest is taken first (log entry 42). -/
def Obligations.AcknowledgeHandshake : Prop :=
  (∀ (s : State) (n : LineNo) (ch : ChannelNo) (before after : List LineWord),
    s.wires.acks = before ++ ⟨n, ch⟩ :: after → (∀ w ∈ before, w.line ≠ n) →
    let u : State := { s with wires := { s.wires with acks := before ++ after } }
    let acked : State :=
      { u with
        lines :=
          s.lines.put n
            { s.line n with
              state := if s.req.row n then .acking else .waiting
              acks := (s.line n).acks + 1 } }
    ((s.line n).state = .serving → (∃ p, (s.line n).mapping = some ⟨ch, p⟩) →
      exec (.lineAcknowledge n) s = .next acked ∧
      (ackLevel acked n = true ↔ s.req.row n = true)) ∧
    (¬((s.line n).state = .serving ∧ ∃ p, (s.line n).mapping = some ⟨ch, p⟩) →
      exec (.lineAcknowledge n) s = .next u)) ∧
  ∀ (s : State) (n : LineNo),
    exec (.reqDeasserted n) s =
      .next
        (if (s.line n).state = .acking then
          { s with
            req := s.req.put n false
            lines := s.lines.put n { s.line n with state := .waiting } }
        else { s with req := s.req.put n false })

/-- A return makes the SERVING line WAITING without ACK, and is ignored unless the line is SERVING for
the named channel (R44). The direction to drop a pending trigger makes the PENDING line WAITING without
ACK (R41), and is under way while the line is PENDING and its channel's line pending is no (log entry
16). Either way a request still standing is taken again at once if the channel can take it. That of two
returns for one line the oldest is taken first is the model's choice (log entry 42). -/
def Obligations.LineReturnsWithoutAcknowledge : Prop :=
  (∀ (s : State) (n : LineNo) (ch : ChannelNo) (before after : List LineWord),
    s.wires.returns = before ++ ⟨n, ch⟩ :: after → (∀ w ∈ before, w.line ≠ n) →
    let u : State := { s with wires := { s.wires with returns := before ++ after } }
    ((s.line n).state = .serving → (∃ p, (s.line n).mapping = some ⟨ch, p⟩) →
      exec (.lineReturn n) s =
        .next
          (({ u with lines := s.lines.put n { s.line n with state := .waiting } } :
            State).takeTrigger n)) ∧
    (¬((s.line n).state = .serving ∧ ∃ p, (s.line n).mapping = some ⟨ch, p⟩) →
      exec (.lineReturn n) s = .next u)) ∧
  ∀ (s : State) (n : LineNo) (m : Mapping), (s.line n).mapping = some m →
    ((s.line n).state = .pending → (s.channel m.channel).linePending = false →
      exec (.linePendingDrop n) s =
        .next
          (({ s with lines := s.lines.put n { s.line n with state := .waiting } } :
            State).takeTrigger n)) ∧
    (¬((s.line n).state = .pending ∧ (s.channel m.channel).linePending = false) →
      exec (.linePendingDrop n) s = .next s)

/-! ### Dispatch (Chapter 2) -/

/-- A dispatch hands the head of the chosen queue to the lowest-numbered IDLE engine in one happening:
the record goes RUNNING with origin LINE, its line SERVING, or else CREDIT with one credit less; the
engine goes RUNNING with the unit of Table 3-3 at the current addresses; the pool takes its limit; and
a mapped WAITING line may then take its trigger (R15, R32, R35, R40, R51, R76). The model's choices here:
the record keeps the line that serves the unit in a field of its own (log entry 17), and causes sent for
an earlier unit of the channel are ignored by then (log entry 18). -/
def Obligations.DispatchStartsUnit : Prop :=
  ∀ (s : State) (e : EngineNo) (k : SchedClass) (ch : ChannelNo) (rest : List ChannelNo) (p : Port)
      (d : Loaded),
    (s.engine e).phase = .idle → (∀ f, f < e → (s.engine f).phase ≠ .idle) →
    s.trigger.choose = some k → s.trigger.queue k = ch :: rest →
    (s.channel ch).owner = some p → (s.channel ch).loaded = some d →
    let c := s.channel ch
    let q := d.program
    let origin : Origin := if c.linePending then .line else .credit
    let u : State :=
      { s with
        channels :=
          s.channels.put ch
            { c with
              state := .running, origin := some origin, linePending := false
              servedLine := if c.linePending then c.mappedLine else none
              credit := if c.linePending then c.credit else c.credit - 1 }
        trigger := (s.trigger.setQueue k rest).countSkips k
        lines :=
          match c.linePending, c.mappedLine with
          | true, some n => s.lines.put n { s.line n with state := .serving }
          | _, _ => s.lines
        pool :=
          { s.pool with
            engines :=
              s.pool.engines.put e
                { s.poolEngine e with
                  request := .none
                  limit :=
                    some
                      (match q.readAhead with
                      | .depth2 => ⟨2, false⟩
                      | .depth4 => ⟨4, false⟩
                      | .depth8 => ⟨8, false⟩
                      | .depth16 => ⟨16, false⟩
                      | .depth32 => ⟨32, false⟩
                      | .fair => ⟨32, true⟩) } }
        wires := { s.wires with causes := s.wires.causes.filter fun x => x.channel ≠ ch } }
    let w : Work :=
      { channel := ch, owner := p, size := q.size
        src := ⟨q.src.domain, q.src.step, d.curSrc⟩, dst := ⟨q.dst.domain, q.dst.step, d.curDst⟩
        readAhead := q.readAhead, origin := origin
        elements :=
          match q.mode with
          | .single => 1
          | .block n => min n d.remaining
          | .run => d.remaining
        readPos := 0, writePos := 0, confirmed := 0, readBytes := 0, room := false }
    exec .dispatch s =
      .next ((u.setEngine e { Engine.idle with phase := .running w }).channelAble ch)

/-- The class served by a dispatch is the first line of Table 2-1 that applies, and the channel served
is the head of that queue (R33); the skip counters then move as R34 says: up by one to at most 8 where
a lower class was passed over, to 0 when its own class is served or its queue is empty. -/
def Obligations.ClassChoiceAndSkipCounters : Prop :=
  ∀ (s : State) (e : EngineNo), (s.engine e).phase = .idle →
    let t := s.trigger
    (t.urgent ≠ [] ∨ t.normal ≠ [] ∨ t.bulk ≠ []) →
    let k : SchedClass :=
      if t.bulkSkip = 8 ∧ t.bulk ≠ [] then .bulk
      else if t.normalSkip = 8 ∧ t.normal ≠ [] then .normal
      else if t.urgent ≠ [] then .urgent
      else if t.normal ≠ [] then .normal
      else .bulk
    ∃ ch rest, t.queue k = ch :: rest ∧
      ((s.channel ch).owner.isSome → (s.channel ch).loaded.isSome → s.LinesSound →
        ∃ u, exec .dispatch s = .next u ∧ (u.channel ch).state = .running ∧
          u.trigger.queue k = rest ∧ (∀ j, j ≠ k → u.trigger.queue j = t.queue j) ∧
          u.trigger.normalSkip =
            (if u.trigger.normal = [] then 0
            else if k = .normal then 0
            else if k = .urgent then min 8 (t.normalSkip + 1)
            else t.normalSkip) ∧
          u.trigger.bulkSkip =
            (if u.trigger.bulk = [] then 0
            else if k = .bulk then 0
            else min 8 (t.bulkSkip + 1)))

/-! ### Bus Masters and admission (Chapters 5 and 6) -/

/-- An OPEN Bus Master with a place and no admission in progress takes the offer of the first engine
that has one, in round-robin order from the engine after the last served: that engine becomes last
served, its transaction is under admission, and the request with direction, address, length and the
channel's owner is on its way (R109). Without an offer, a place or the OPEN state nothing is taken. -/
def Obligations.OffersAreTakenRoundRobin : Prop :=
  ∀ (s : State) (d : Domain),
    let m := s.master d
    (∀ (j : EngineNo) (t : Txn) (p : Port),
      m.state = .open → m.list.length < 16 → m.admission = none →
      let e : EngineNo := m.lastServed + 1 + j
      (∀ i, i < j → (s.engine (m.lastServed + 1 + i)).offers.get d = none) →
      (s.engine e).offers.get d = some t →
      (∃ w, (s.engine e).phase = .running w ∧ w.owner = p) →
      exec (.takeOffer d) s =
        .next
          ((({ s with
              masters :=
                s.masters.set d
                  { m with lastServed := e, admission := some ⟨e, t, p, false⟩ }
              wires :=
                { s.wires with
                  aperture :=
                    s.wires.aperture.set d
                      (s.wires.aperture.get d ++
                        [.request t.dir t.address t.length p]) } } : State).setEngine e
            { s.engine e with admission := (s.engine e).admission.set d (some t) }))) ∧
    (m.state ≠ .open ∨ 16 ≤ m.list.length ∨ m.admission.isSome ∨
        (∀ e, (s.engine e).offers.get d = none) →
      exec (.takeOffer d) s = .next s)

/-- An admission request is answered by the lowest-numbered OPEN aperture that wholly covers the byte
range and grants the owner the right, which gains one user; failing that, it is refused
APERTURE_REVOKED when a DRAINING aperture would have qualified, and ACCESS_DENIED otherwise, with no
record changed (R89, R97, R98). -/
def Obligations.AdmissionLooksForAnAperture : Prop :=
  ∀ (s : State) (d : Domain) (dir : Direction) (address : Word) (length : Nat) (p : Port)
      (rest : List ApertureWord),
    s.wires.aperture.get d = .request dir address length p :: rest →
    let qualifies := fun (st : ApertureState) (i : ApertureNo) =>
      (s.aperture d i).state = st ∧ ∃ g, (s.aperture d i).grant = some g ∧
        g.base.toNat ≤ address.toNat ∧ address.toNat + length ≤ g.base.toNat + g.pages * 4096 ∧
        (g.rights = .readWrite ∨ (g.rights = .read ∧ dir = .read) ∨
          (g.rights = .write ∧ dir = .write)) ∧
        (g.grantees = .both ∨ (g.grantees = .self ∧ p = d) ∨ (g.grantees = .peer ∧ p ≠ d))
    let answered := fun r : AdmissionReply =>
      ({ s with
          wires :=
            { s.wires with
              aperture := s.wires.aperture.set d rest
              admissions := s.wires.admissions.set d (some r) } } : State)
    (∀ i, qualifies .open i → (∀ j, j < i → ¬qualifies .open j) →
      exec (.admissionRequest d) s =
        .next
          ((answered (.admitted i)).setAperture d i
            { s.aperture d i with users := (s.aperture d i).users + 1 })) ∧
    ((∀ i, ¬qualifies .open i) → (∃ i, qualifies .draining i) →
      exec (.admissionRequest d) s = .next (answered (.refused .revoked))) ∧
    ((∀ i, ¬qualifies .open i) → (∀ i, ¬qualifies .draining i) →
      exec (.admissionRequest d) s = .next (answered (.refused .denied)))

/-- The answer to an admission reaches the Bus Master: OPEN and not marked reset it issues an admitted
transaction at the tail of the bus list, with the deadline of R111, and the engine moves its position
past it; a refused offer goes back with its kind. RECOVERING or marked reset, the user is released and
the offer returned, nothing issued (R54, R58, R110, R111). A WRITE carries, for each unit byte it covers,
the byte at that byte's staging place, k further on, in the line held for its unit line (R56, R77); a
READ carries none. That the entry keeps these bytes is the model's choice (log entry 25). -/
def Obligations.AdmissionAnswerIssuesOrReturns : Prop :=
  ∀ (s : State) (d : Domain) (a : Admission) (r : AdmissionReply),
    s.wires.admissions.get d = some r → (s.master d).admission = some a →
    let m := s.master d
    let u : State :=
      { s with
        wires := { s.wires with admissions := s.wires.admissions.set d none }
        masters := s.masters.set d { m with admission := none } }
    (m.state = .open ∧ a.marked = false →
      (∀ k, r = .refused k →
        exec (.admissionAnswer d) s = .next (u.setOfferBack d a.engine (some (.refused k)))) ∧
      (∀ i, r = .admitted i →
        let g := s.engine a.engine
        let moved := fun w : Work =>
          (match a.txn.dir with
          | .read => { w with readPos := a.txn.index + 1, room := false }
          | .write => { w with writePos := a.txn.index + 1 } : Work)
        let issued := fun (bytes : List Byte) (ph : Phase) =>
          (({ u with
              masters :=
                s.masters.set d
                  { m with
                    admission := none
                    list :=
                      m.list ++
                        [{ status := .outstanding, engine := a.engine, txn := a.txn, aperture := i
                           deadline := if m.limit = 0 then none else some (s.clock + m.limit)
                           bytes := bytes }] } } :
            State).setEngine a.engine
            { g with
              phase := ph
              admission := g.admission.set d none
              outstanding := g.outstanding ++ [⟨d, a.txn⟩] })
        let carried := fun (w : Work) (bytes : List Byte) =>
          let k :=
            if w.src.step = .increment ∨ w.src.step = .incrementRewind then w.src.start.toNat % 32
            else 0
          (a.txn.dir = .read → bytes = []) ∧
          (a.txn.dir = .write →
            bytes.length = a.txn.length ∧
            ∀ j, j < a.txn.length →
              let place := k + (a.txn.first * w.size.bytes + j)
              ∀ (n : StagingLine) (x : Fin 32) before after,
                (s.poolEngine a.engine).held = before ++ ⟨place / 32, n⟩ :: after →
                (∀ h ∈ before, h.unitLine ≠ place / 32) → x.val = place % 32 →
                bytes[j]? = some ((s.pool.data.row n).row x))
        (∀ w, g.phase = .running w → ∃ bytes, carried w bytes ∧
          exec (.admissionAnswer d) s = .next (issued bytes (.running (moved w)))) ∧
        ∀ w c, g.phase = .stopping w c → ∃ bytes, carried w bytes ∧
          exec (.admissionAnswer d) s = .next (issued bytes (.stopping (moved w) c)))) ∧
    (¬(m.state = .open ∧ a.marked = false) →
      (∀ k, r = .refused k →
        exec (.admissionAnswer d) s = .next (u.setOfferBack d a.engine (some .returned))) ∧
      (∀ i, r = .admitted i →
        exec (.admissionAnswer d) s =
          .next ((u.sendAperture d (.userEnd i)).setOfferBack d a.engine (some .returned))))

/-- A bus response answers the oldest entry: OUTSTANDING, its engine is handed the response with the
entry's bytes; STALE, it is discarded, the stale count falls, and at 0 the master is OPEN again; either
way the aperture's user ends. On an empty list it is discarded (R108, R115). A read answered with fewer
bytes than its length has free values for the rest (R117; log entries 7 and 34). -/
def Obligations.ResponseAnswersOldestEntry : Prop :=
  ∀ (s : State) (d : Domain) (r : BusReply),
    let m := s.master d
    (m.list = [] → exec (.busResponse d r) s = .next s) ∧
    ∀ x rest, m.list = x :: rest →
      let ended := s.wires.aperture.set d (s.wires.aperture.get d ++ [.userEnd x.aperture])
      (x.status = .outstanding → ∃ b n,
        exec (.busResponse d r) s =
          .next
            { s with
              masters := s.masters.set d { m with list := rest }
              wires :=
                { s.wires with
                  aperture := ended
                  engineWords :=
                    s.wires.engineWords.set d (s.wires.engineWords.get d ++ [⟨x.engine, b⟩]) }
              freeCount := n } ∧
        (r = .error → b = .error x.txn ∧ n = s.freeCount) ∧
        (∀ data, r = .okay data → x.txn.dir = .write → b = .okay x.txn [] ∧ n = s.freeCount) ∧
        (∀ data, r = .okay data → x.txn.dir = .read →
          n = s.freeCount + (x.txn.length - data.length) ∧
          ∃ shaped, b = .okay x.txn shaped ∧ shaped.length = x.txn.length ∧
            ∀ i, i < x.txn.length → i < data.length → shaped[i]? = data[i]?)) ∧
      (x.status = .stale →
        exec (.busResponse d r) s =
          .next
            { s with
              masters :=
                s.masters.set d
                  { m with
                    list := rest
                    stale := m.stale - 1
                    state := if m.stale - 1 = 0 then .open else m.state }
              wires := { s.wires with aperture := ended } })

/-- An expiry at an OUTSTANDING entry with a deadline: every entry goes STALE with its timer stopped and
its place kept, the master RECOVERING with that stale count, and each engine with an entry is sent one
failure that names its transactions, own for the engine of the expired entry and collateral for the
rest; it is taken at or after the deadline (R111, R113). An entry that is STALE or untimed does not
expire. That the clock stands at the latest deadline reached is the model's choice (log entry 4). -/
def Obligations.ExpiryFailsTheWholeList : Prop :=
  ∀ (s : State) (d : Domain) (n : Nat) (x : BusEntry), (s.master d).list[n]? = some x →
    (x.status = .stale ∨ x.deadline = none → exec (.responseLimitExpiry d n) s = .next s) ∧
    ∀ due, x.status = .outstanding → x.deadline = some due →
      let m := s.master d
      ∃ words,
        exec (.responseLimitExpiry d n) s =
          .next
            { s with
              clock := max s.clock due
              masters :=
                s.masters.set d
                  { m with
                    state := .recovering, stale := m.list.length
                    list := m.list.map fun y => { y with status := .stale, deadline := none } }
              wires :=
                { s.wires with
                  engineWords :=
                    s.wires.engineWords.set d (s.wires.engineWords.get d ++ words) } } ∧
        words.map (fun w => w.engine) =
          (List.finRange 4).filter (fun e => m.list.any fun y => y.engine = e) ∧
        ∀ w ∈ words,
          w.body =
            .failure (if w.engine = x.engine then .timeoutOwn x.txn else .timeoutCollateral)
              ((m.list.filter fun y => y.engine = w.engine).map fun y => y.txn)

/-- CLEAR_BUS drops every entry of a RECOVERING master, ending each one's user in list order, and
answers their number; at an OPEN master nothing changes and the answer is 0 (R116). A reset teardown's
abandonment fails the OUTSTANDING entries to their engines with DOMAIN_RESET, ends every entry's user
in list order, leaves the master OPEN and empty, and marks an admission in progress (R118). -/
def Obligations.ClearedAndAbandonedBuses : Prop :=
  (∀ (s : State) (p : Port) (l : Latched) (rest : List Latched), s.handedOver p 0x39 l rest →
    let m := s.master p
    (s.online p = false → exec (.clearBus p) s = .next (s.taken p l rest (.plain .notOnline))) ∧
    (s.online p = true → m.state = .open →
      exec (.clearBus p) s = .next (s.taken p l rest ⟨.ok, results 0 0 0 0⟩)) ∧
    (s.online p = true → m.state = .recovering →
      exec (.clearBus p) s =
        .next
          { s with
            masters := s.masters.set p { m with state := .open, list := [], stale := 0 }
            wires :=
              { (s.taken p l rest
                  ⟨.ok, results 0 (BitVec.ofNat 32 m.list.length) 0 0⟩).wires with
                aperture :=
                  s.wires.aperture.set p
                    (s.wires.aperture.get p ++ m.list.map fun y => .userEnd y.aperture) } })) ∧
  ∀ (s : State) (d : Domain) (n : Nat), (s.wires.directions.get d).abandon = n + 1 →
    let m := s.master d
    let failed := m.list.filter fun y => y.status = .outstanding
    ∃ words,
      exec (.busAbandon d) s =
        .next
          { s with
            masters :=
              s.masters.set d
                { m with
                  state := .open, list := [], stale := 0
                  admission := m.admission.map fun a => { a with marked := true } }
            wires :=
              { s.wires with
                directions :=
                  s.wires.directions.set d { s.wires.directions.get d with abandon := n }
                aperture :=
                  s.wires.aperture.set d
                    (s.wires.aperture.get d ++ m.list.map fun y => .userEnd y.aperture)
                engineWords :=
                  s.wires.engineWords.set d (s.wires.engineWords.get d ++ words) } } ∧
      words.map (fun w => w.engine) =
        (List.finRange 4).filter (fun e => failed.any fun y => y.engine = e) ∧
      ∀ w ∈ words,
        w.body =
          .failure .domainReset ((failed.filter fun y => y.engine = w.engine).map fun y => y.txn)

/-- SET_RESPONSE_LIMIT checks ONLINE and then the limit, and sets the limit of the port's own domain,
answering the previous one; entries keep the deadlines they have (R112). -/
def Obligations.ResponseLimitIsSet : Prop :=
  ∀ (s : State) (p : Port) (l : Latched) (rest : List Latched), s.handedOver p 0x38 l rest →
    (s.online p = false →
      exec (.setResponseLimit p) s = .next (s.taken p l rest (.plain .notOnline))) ∧
    (s.online p = true → 65535 < l.arg 0 →
      exec (.setResponseLimit p) s = .next (s.taken p l rest (.badField 1))) ∧
    (s.online p = true → l.arg 0 ≤ 65535 →
      exec (.setResponseLimit p) s =
        .next
          { s.taken p l rest
              ⟨.ok, results 0 (BitVec.ofNat 32 (s.master p).limit) 0 0⟩ with
            masters := s.masters.set p { s.master p with limit := l.arg 0 } })

/-! ### Transfer Engines (Chapter 3) -/

/-- The division of a unit (R52, R53): for a side whose start lies at a multiple of the element size and
a unit of at least one element, the transactions cover the elements in order, each element once, each
transaction with at least one element, of 1 to 32 bytes inside one 32-byte span, at the address of its
first element. -/
def Obligations.TransactionsTileTheUnit : Prop :=
  ∀ (x : Side) (dir : Direction) (size : ElementSize) (n : Nat), 1 ≤ n → n ≤ 16777215 →
    x.start.toNat % size.bytes = 0 →
    let b := size.bytes
    let low := fun i : Nat =>
      if x.step = .decrement then (x.start.toNat : Int) - i * b
      else if x.step = .fixed then (x.start.toNat : Int) else x.start.toNat + i * b
    (∀ i, i < n → 0 ≤ low i ∧ low i + b ≤ 4294967296) →
    let first := fun j => (x.txn dir b n j).first
    let past := fun j => (x.txn dir b n j).first + (x.txn dir b n j).elems
    first 0 = 0 ∧ past (x.txnCount b n - 1) = n ∧ 1 ≤ x.txnCount b n ∧
    (∀ j, j + 1 < x.txnCount b n → first (j + 1) = past j) ∧
    ∀ j, j < x.txnCount b n →
      let t := x.txn dir b n j
      1 ≤ t.elems ∧ t.length = t.elems * b ∧ 1 ≤ t.length ∧ t.length ≤ 32 ∧
      (t.address.toNat : Int) = low t.first ∧
      t.address.toNat / 32 = (t.address.toNat + t.length - 1) / 32 ∧
      ((x.step = .decrement ∨ x.step = .fixed) → t.elems = 1) ∧
      ((x.step = .increment ∨ x.step = .incrementRewind) → j + 1 < x.txnCount b n →
        t.address.toNat / 32 < (x.txn dir b n (j + 1)).address.toNat / 32)

/-- An OKAY read response at a RUNNING engine takes the read off the outstanding list, stores its data
at the staging places of the bytes it covered and nowhere else, and marks those bytes read (R59, R77).
That the bytes read are a prefix of the unit is the model's form (log entry 11). -/
def Obligations.ReadOkayFillsStaging : Prop :=
  ∀ (s : State) (d : Domain) (e : EngineNo) (t : Txn) (data : List Byte)
      (before after : List EngineWord) (w : Work) (n : StagingLine),
    s.wires.engineWords.get d = before ++ ⟨e, .okay t data⟩ :: after →
    (∀ x ∈ before, x.engine ≠ e) → t.dir = .read → (s.engine e).phase = .running w →
    data.length = t.length →
    let start := (w.src.offset + t.first * w.size.bytes) % 32
    let line := (w.src.offset + t.first * w.size.bytes) / 32
    (s.poolEngine e).lineOf line = some n →
    ∃ u, exec (.readResponseOkay d e) s =
        .next
          (({ s with
              wires :=
                { s.wires with engineWords := s.wires.engineWords.set d (before ++ after) }
              pool := { s.pool with data := u } } : State).setEngine e
            { s.engine e with
              phase := .running { w with readBytes := (t.first + t.elems) * w.size.bytes }
              outstanding :=
                (s.engine e).outstanding.filter fun y => ¬(y.domain = d ∧ y.txn = t) }) ∧
      (∀ m, m ≠ n → u.row m = s.pool.data.row m) ∧
      ∀ j : Fin 32,
        (∀ i, i < t.length → j.val = start + i → some ((u.row n).row j) = data[i]?) ∧
        ((j.val < start ∨ start + t.length ≤ j.val) →
          (u.row n).row j = (s.pool.data.row n).row j)

/-- An OKAY write response at a RUNNING engine confirms the elements the write covered; the pool frees
every line whose share is now confirmed in the same happening, and with the last element the unit ends:
the engine reports the addresses of Table 3-5, the unit size and the origin, and is IDLE with no
line (R60–R62, R82, R86). -/
def Obligations.WriteOkayConfirmsAndEndsUnit : Prop :=
  ∀ (s : State) (d : Domain) (e : EngineNo) (t : Txn) (data : List Byte)
      (before after : List EngineWord) (w : Work),
    s.wires.engineWords.get d = before ++ ⟨e, .okay t data⟩ :: after →
    (∀ x ∈ before, x.engine ≠ e) → t.dir = .write → (s.engine e).phase = .running w →
    let v := { w with confirmed := w.confirmed + t.elems }
    let u :=
      (({ s with
          wires := { s.wires with engineWords := s.wires.engineWords.set d (before ++ after) } } :
        State).setEngine e
        { s.engine e with
          phase := .running v
          outstanding :=
            (s.engine e).outstanding.filter fun y => ¬(y.domain = d ∧ y.txn = t) }).takeConfirmed e
    let left := fun x : Side =>
      match x.step with
      | .increment => x.start + BitVec.ofNat 32 (v.elements * v.size.bytes)
      | .decrement => x.start - BitVec.ofNat 32 (v.elements * v.size.bytes)
      | .fixed => x.start
      | .incrementRewind => x.start
    (v.confirmed < v.elements → exec (.writeResponseOkay d e) s = .next u) ∧
    (v.elements ≤ v.confirmed →
      exec (.writeResponseOkay d e) s =
        .next
          (((u.releaseLines e).sendReport
            ⟨w.channel, .unitEnd ⟨left w.src, left w.dst, w.elements⟩ w.origin⟩).setEngine e
            Engine.idle) ∧
      ∀ x, exec (.writeResponseOkay d e) s = .next x →
        (x.engine e).phase = .idle ∧ (x.poolEngine e).held = [] ∧ (x.poolEngine e).limit = none ∧
          (x.poolEngine e).request = .none ∧ e ∉ x.pool.waiting)

/-- A RUNNING engine faults when its transaction is refused, answered ERROR or failed: it sends the
message that the channel has faulted, is STOPPING with the fault record of the failing transaction,
holds no offer and no request for room, and its stop ends when it owes nothing (R63–R67, R71, R72,
R85). A collateral or reset failure names the oldest transaction failed. -/
def Obligations.RunningEngineFaults : Prop :=
  ∀ (s : State) (d : Domain) (e : EngineNo) (w : Work), (s.engine e).phase = .running w →
    let faulted := fun (u : State) (g : Engine) (r : FaultRecord) =>
      let v := (u.sendReport ⟨w.channel, .faulted⟩).setEngine e { g with phase := .stopping w (.fault r) }
      ({ v with
          pool :=
            { s.pool with
              waiting := s.pool.waiting.filter fun f => f ≠ e
              engines := s.pool.engines.put e { s.poolEngine e with request := .none } } } :
        State).tryStopEnd e
    let record := fun (k : FaultKind) (t : Txn) (collateral : Bool) =>
      (⟨k, d, t.address, t.first, collateral⟩ : FaultRecord)
    (∀ (k : AdmissionKind) (t : Txn),
      (s.wires.offersBack.get d).row e = some (.refused k) →
      (s.engine e).admission.get d = some t →
      let g := { s.engine e with admission := (s.engine e).admission.set d none }
      exec (.admissionRefusal d e) s =
        .next
          (faulted (s.setOfferBack d e none) g
            (record (match k with | .denied => .accessDenied | .revoked => .apertureRevoked) t
              false))) ∧
    ∀ (before after : List EngineWord) (b : EngineWordBody),
      s.wires.engineWords.get d = before ++ ⟨e, b⟩ :: after → (∀ x ∈ before, x.engine ≠ e) →
      let u : State :=
        { s with
          wires := { s.wires with engineWords := s.wires.engineWords.set d (before ++ after) } }
      (∀ t, b = .error t →
        let g :=
          { s.engine e with
            outstanding :=
              (s.engine e).outstanding.filter fun y => ¬(y.domain = d ∧ y.txn = t) }
        exec (.responseError d e) s =
          .next
            (faulted u g
              (record (match t.dir with | .read => .readError | .write => .writeError) t false))) ∧
      ∀ k t ts, b = .failure k (t :: ts) →
        let g :=
          { s.engine e with
            outstanding :=
              (s.engine e).outstanding.filter fun y => ¬(y.domain = d ∧ y.txn ∈ t :: ts) }
        exec (.transactionFailure d e) s =
          .next
            (faulted u g
              (match k with
              | .timeoutOwn x => record .timeout x false
              | .timeoutCollateral => record .timeout t true
              | .domainReset => record .domainReset t false))

/-- A STOPPING engine lets a response, a failure, a refusal or a returned offer end its transactions and
changes nothing else: no byte is read, no element confirmed, the cause stays; a RUNNING engine takes a
returned offer as its standing offer again (R70, R72, R110). -/
def Obligations.StoppingEngineAbsorbs : Prop :=
  ∀ (s : State) (d : Domain) (e : EngineNo),
    let g := { s.engine e with admission := (s.engine e).admission.set d none }
    (∀ w c, (s.engine e).phase = .stopping w c →
      ∀ (before after : List EngineWord) (b : EngineWordBody),
        s.wires.engineWords.get d = before ++ ⟨e, b⟩ :: after → (∀ x ∈ before, x.engine ≠ e) →
        let u := fun gone : Txn → Bool =>
          (({ s with
              wires :=
                { s.wires with engineWords := s.wires.engineWords.set d (before ++ after) } } :
            State).setEngine e
            { s.engine e with
              outstanding :=
                (s.engine e).outstanding.filter fun y =>
                  ¬(y.domain = d ∧ gone y.txn = true) }).tryStopEnd e
        (∀ t data, b = .okay t data → t.dir = .read →
          exec (.readResponseOkay d e) s = .next (u fun x => x = t)) ∧
        (∀ t data, b = .okay t data → t.dir = .write →
          exec (.writeResponseOkay d e) s = .next (u fun x => x = t)) ∧
        (∀ t, b = .error t → exec (.responseError d e) s = .next (u fun x => x = t)) ∧
        ∀ k ts, b = .failure k ts →
          exec (.transactionFailure d e) s = .next (u fun x => ts.contains x)) ∧
    ((s.wires.offersBack.get d).row e = some .returned →
      exec (.offerReturned d e) s =
        .next (((s.setOfferBack d e none).setEngine e g).tryStopEnd e)) ∧
    ((s.wires.offersBack.get d).row e = some .returned → ∀ w, (s.engine e).phase = .running w →
      exec (.offerReturned d e) s = .next ((s.setOfferBack d e none).setEngine e g)) ∧
    ∀ w c k t, (s.engine e).phase = .stopping w c →
      (s.wires.offersBack.get d).row e = some (.refused k) →
      (s.engine e).admission.get d = some t →
      exec (.admissionRefusal d e) s =
        .next (((s.setOfferBack d e none).setEngine e g).tryStopEnd e)

/-- A stop cause is taken by the engine that serves the channel: RUNNING it is STOPPING with that cause,
its offers and its request for room withdrawn; STOPPING it keeps its cause against ABORT and replaces
it by TEARDOWN, a fault record gone; where no engine serves the channel the cause is ignored. An engine
that owes nothing then ends its stop: it releases its lines, reports the first unconfirmed element
without rewind, and is IDLE (R50, R68–R72, R85). An engine owes nothing exactly when its outstanding list
is empty and nothing of it is under admission at either Bus Master; the shared end of a stop acts on a
STOPPING engine that owes nothing, and on no other (R72); the address of an element is that of Table
3-4. -/
def Obligations.StopCausesEndInStopReports : Prop :=
  (∀ g : Engine, g.owesNothing = true ↔ g.outstanding = [] ∧ ∀ d, g.admission.get d = none) ∧
  (∀ (x : Side) (bytes i : Nat),
    let n : Int := (x.elementAddress bytes i).toNat
    match x.step with
    | .increment => n = (x.start.toNat + i * bytes : Int) % 2 ^ 32
    | .decrement => n = (x.start.toNat - i * bytes : Int) % 2 ^ 32
    | .fixed => n = x.start.toNat
    | .incrementRewind => n = (x.start.toNat + i * bytes : Int) % 2 ^ 32) ∧
  (∀ (s : State) (e : EngineNo),
    (∀ w c, (s.engine e).phase = .stopping w c → (s.engine e).owesNothing = true →
      s.tryStopEnd e =
        ((s.releaseLines e).sendReport
          ⟨w.channel, .stop
            ⟨w.src.elementAddress w.size.bytes w.confirmed,
              w.dst.elementAddress w.size.bytes w.confirmed, w.confirmed⟩ c⟩).setEngine e Engine.idle) ∧
    ((∀ w c, (s.engine e).phase ≠ .stopping w c) ∨ (s.engine e).owesNothing = false →
      s.tryStopEnd e = s)) ∧
  ∀ (s : State) (ch : ChannelNo) (before after : List CauseWord) (c : SentCause),
    s.wires.causes = before ++ ⟨ch, c⟩ :: after → (∀ x ∈ before, x.channel ≠ ch) →
    let row : Instr := match c with | .abort => .stopCauseAbort ch | .teardown => .stopCauseTeardown ch
    let cause : StopCause := match c with | .abort => .abort | .teardown => .teardown
    let u : State := { s with wires := { s.wires with causes := before ++ after } }
    ((∀ e w, (s.engine e).phase = .running w ∨ (∃ k, (s.engine e).phase = .stopping w k) →
        w.channel ≠ ch) →
      exec row s = .next u) ∧
    ∀ e w, w.channel = ch →
      (∀ f x, f < e → (s.engine f).phase = .running x ∨ (∃ k, (s.engine f).phase = .stopping x k) →
        x.channel ≠ ch) →
      (∀ k, (s.engine e).phase = .stopping w k → c = .abort → exec row s = .next u) ∧
      ((s.engine e).phase = .running w ∨
          ((∃ k, (s.engine e).phase = .stopping w k) ∧ c = .teardown) →
        ((s.engine e).owesNothing = false →
          ∃ t, exec row s = .next t ∧
            t.engine e =
              ({ s.engine e with phase := .stopping w cause, offers := ⟨none, none⟩ } : Engine) ∧
            (∀ f, f ≠ e → t.engine f = s.engine f) ∧ t.wires = u.wires ∧
            ((s.engine e).phase = .running w →
              (t.poolEngine e).request = .none ∧ e ∉ t.pool.waiting)) ∧
        ((s.engine e).owesNothing = true →
          ∃ t, exec row s = .next t ∧ (t.engine e).phase = .idle ∧
            t.wires.reports =
              s.wires.reports ++
                [⟨ch, .stop
                  ⟨w.src.elementAddress w.size.bytes w.confirmed,
                    w.dst.elementAddress w.size.bytes w.confirmed, w.confirmed⟩ cause⟩] ∧
            (t.poolEngine e).held = [] ∧ (t.poolEngine e).limit = none ∧
            (t.poolEngine e).request = .none ∧ e ∉ t.pool.waiting))

/-! ### Staging Pool (Chapter 4) -/

/-- A RUNNING engine that asks for room of a read that starts a new unit line is answered by the first
case of R79 that applies: at its limit it waits AT_LIMIT; else it takes its lower free reserve line;
else the head of the shared free list when it may, a FAIR engine only with at least 60 free; else it
joins the Line Wait List. A read in the line being filled has its room without a line (R78, R79). -/
def Obligations.RoomIsGivenByCase : Prop :=
  ∀ (s : State) (e : EngineNo) (w : Work) (k : LineLimit),
    (s.engine e).phase = .running w → w.readPos < w.reads → w.room = false →
    let x := s.poolEngine e
    x.limit = some k → x.request = .none →
    let roomy := { s.engine e with phase := .running { w with room := true } }
    let byte := w.src.offset + (w.src.firstElement w.size.bytes w.readPos) * w.size.bytes
    let starts :=
      w.src.step = .increment ∨ w.src.step = .incrementRewind ∨
        (w.src.firstElement w.size.bytes w.readPos * w.size.bytes) % 32 = 0
    let given := fun (n : StagingLine) (free : List StagingLine) =>
      ({ s with
          pool :=
            { s.pool with
              free := free
              waiting := s.pool.waiting.filter fun f => f ≠ e
              engines :=
                s.pool.engines.put e
                  { x with held := x.held ++ [⟨byte / 32, n⟩], request := .none } } } :
        State).setEngine e roomy
    let lowHeld := ∃ h ∈ x.held, h.line.val = 2 * e.val
    let highHeld := ∃ h ∈ x.held, h.line.val = 2 * e.val + 1
    let allowed := if k.fair then 60 ≤ s.pool.free.length else 1 ≤ s.pool.free.length
    (¬starts → exec (.roomRequest e) s = .next (s.setEngine e roomy)) ∧
    (starts →
      (k.lines ≤ x.held.length →
        exec (.roomRequest e) s =
          .next
            { s with
              pool :=
                { s.pool with engines := s.pool.engines.put e { x with request := .atLimit } } }) ∧
      (x.held.length < k.lines → ¬lowHeld → ∀ n : StagingLine, n.val = 2 * e.val →
        exec (.roomRequest e) s = .next (given n s.pool.free)) ∧
      (x.held.length < k.lines → lowHeld → ¬highHeld →
        ∀ n : StagingLine, n.val = 2 * e.val + 1 →
          exec (.roomRequest e) s = .next (given n s.pool.free)) ∧
      (x.held.length < k.lines → lowHeld → highHeld → allowed → ∀ n rest,
        s.pool.free = n :: rest → exec (.roomRequest e) s = .next (given n rest)) ∧
      (x.held.length < k.lines → lowHeld → highHeld → ¬allowed →
        exec (.roomRequest e) s =
          .next
            { s with
              pool :=
                { s.pool with
                  waiting := s.pool.waiting ++ [e]
                  engines := s.pool.engines.put e { x with request := .listed } } }))

/-- A shared line that falls free goes to the oldest engine on the Line Wait List that may take it, a
FAIR engine only with at least 60 free counting that line, and otherwise joins the tail of the shared
free list (R83). CONFIRMED_BYTES frees one line after another, in the order held, whose share is wholly
confirmed, and then takes up the engine's request by the cases of R84 (R82); LINE_RELEASE ends a stop
that owes nothing with every line given up and the stop report sent (R72, R85). An engine that becomes
IDLE has given up its lines one after another, and holds none, has no limit and stands on no list (R75,
R85, R86). The model's choices here: that these two rows take again what the engine's own happening does
(log entry 13), that of two free reserve lines a LISTED request takes the lower-numbered one (log entry
39), and that a request still pending when an engine gives up its lines is dropped (log entry 41). -/
def Obligations.FreedLinesAreHandedOver : Prop :=
  (∀ (s : State) (n : StagingLine),
    let may := fun e =>
      if (s.poolEngine e).fair then 60 ≤ s.pool.free.length + 1 else True
    (∀ (e : EngineNo) before after, s.pool.waiting = before ++ e :: after →
      (∀ f ∈ before, ¬may f) → may e →
      let t := s.handOver n
      t.pool.free = s.pool.free ∧
        (t.poolEngine e).request = .none ∧ e ∉ t.pool.waiting ∧
        (t.poolEngine e).lines = (s.poolEngine e).lines ++ [n] ∧
        (∀ f, f ≠ e → t.poolEngine f = s.poolEngine f ∧ t.engine f = s.engine f) ∧
        ∀ w, (s.engine e).phase = .running w →
          (t.engine e).phase = .running { w with room := true }) ∧
    ((∀ f ∈ s.pool.waiting, ¬may f) →
      s.handOver n = { s with pool := { s.pool with free := s.pool.free ++ [n] } })) ∧
  (∀ (s : State) (e : EngineNo),
    (s.freeLines e [] = s ∧
      ∀ h hs,
        let x := s.poolEngine e
        let t : State :=
          { s with
            pool :=
              { s.pool with
                engines :=
                  s.pool.engines.put e { x with held := x.held.filter fun g => g.line ≠ h.line } } }
        s.freeLines e (h :: hs) =
          (if h.line.val < 8 then t else t.handOver h.line).freeLines e hs) ∧
    (∀ t, s.releaseLines e = t →
      (t.poolEngine e).held = [] ∧ (t.poolEngine e).limit = none ∧
        (t.poolEngine e).request = .none ∧ e ∉ t.pool.waiting ∧
        ((s.poolEngine e).request = .none → e ∉ s.pool.waiting →
          let u := s.freeLines e (s.poolEngine e).held
          t.pool.free = u.pool.free ∧ t.pool.waiting = u.pool.waiting ∧ t.engines = u.engines ∧
            ∀ f, f ≠ e → t.poolEngine f = u.poolEngine f)) ∧
    ∀ (w : Work) (k : LineLimit) (reserve : Bool),
      let x := s.poolEngine e
      (s.engine e).phase = .running w → x.limit = some k →
      let t := s.takeUpRequest e reserve
      let byte := w.src.offset + (w.src.firstElement w.size.bytes w.readPos) * w.size.bytes
      let given := fun (n : StagingLine) (free : List StagingLine) =>
        ({ s with
            pool :=
              { s.pool with
                free := free
                waiting := s.pool.waiting.filter fun f => f ≠ e
                engines :=
                  s.pool.engines.put e
                    { x with held := x.held ++ [⟨byte / 32, n⟩], request := .none } } } :
          State).setEngine e { s.engine e with phase := .running { w with room := true } }
      let lowHeld := ∃ h ∈ x.held, h.line.val = 2 * e.val
      let highHeld := ∃ h ∈ x.held, h.line.val = 2 * e.val + 1
      let allowed := if k.fair then 60 ≤ s.pool.free.length else 1 ≤ s.pool.free.length
      (x.request = .none → t = s) ∧
      (x.request = .listed →
        (reserve = false ∨ (lowHeld ∧ highHeld) → t = s) ∧
        (reserve = true → ¬lowHeld → ∀ n : StagingLine, n.val = 2 * e.val →
          t = given n s.pool.free) ∧
        (reserve = true → lowHeld → ¬highHeld → ∀ n : StagingLine, n.val = 2 * e.val + 1 →
          t = given n s.pool.free)) ∧
      (x.request = .atLimit → x.held.length < k.lines →
        (¬lowHeld → ∀ n : StagingLine, n.val = 2 * e.val → t = given n s.pool.free) ∧
        (lowHeld → ¬highHeld → ∀ n : StagingLine, n.val = 2 * e.val + 1 →
          t = given n s.pool.free) ∧
        (lowHeld → highHeld → allowed → ∀ n rest, s.pool.free = n :: rest → t = given n rest) ∧
        (lowHeld → highHeld → ¬allowed →
          t.pool.waiting = s.pool.waiting ++ [e] ∧
            (t.poolEngine e) = { x with request := .listed } ∧ t.engines = s.engines ∧
            t.pool.free = s.pool.free ∧ ∀ f, f ≠ e → t.poolEngine f = s.poolEngine f))) ∧
  (∀ (s : State) (e : EngineNo) (w : Work), (s.engine e).phase = .running w →
    let done := fun h : HeldLine =>
      min (w.elements * w.size.bytes) (32 * (h.unitLine + 1) - w.src.offset)
        ≤ w.confirmed * w.size.bytes
    ((∀ h ∈ (s.poolEngine e).held, ¬done h) → exec (.confirmedBytes e) s = .next s) ∧
    ∀ h, h ∈ (s.poolEngine e).held → done h →
      let hs := (s.poolEngine e).held.filter fun g => done g
      exec (.confirmedBytes e) s =
        .next ((s.freeLines e hs).takeUpRequest e (hs.any fun g => g.line.val < 8))) ∧
  ∀ (s : State) (e : EngineNo),
    ((s.engine e).phase = .idle → exec (.lineRelease e) s = .next (s.releaseLines e)) ∧
    (∀ w, (s.engine e).phase = .running w → exec (.lineRelease e) s = .next s) ∧
    ∀ w c, (s.engine e).phase = .stopping w c →
      ((s.engine e).owesNothing = false → exec (.lineRelease e) s = .next s) ∧
      ((s.engine e).owesNothing = true →
        exec (.lineRelease e) s =
          .next
            (((s.releaseLines e).sendReport
              ⟨w.channel, .stop
                ⟨w.src.elementAddress w.size.bytes w.confirmed,
                  w.dst.elementAddress w.size.bytes w.confirmed, w.confirmed⟩ c⟩).setEngine e
              Engine.idle))

/-! ### Apertures (Chapter 5) -/

/-- OPEN_APERTURE and QUERY_APERTURE make the checks of R90 in order: ONLINE, a domain, an index, and
for OPEN_APERTURE the own domain and a CLOSED record; then OPEN_APERTURE makes the five field checks of
Table 5-2 in order and answers the first that fails (R91), and otherwise opens the record with the next
generation and offers it to a peer that is a grantee (R92). QUERY_APERTURE shows the own port state,
generation and users, and the grant of a record that has been opened, CLOSED or not; a peer that is a
grantee of an OPEN or DRAINING record sees no users and no grantees; any other peer sees the state
alone; presence bits tell which (R96, Tables 5-3 and 10-8). The bounds on users and size are those of
R100 and R91. -/
def Obligations.AperturesOpenAndShow : Prop :=
  (∀ (s : State) (p : Port) (l : Latched) (rest : List Latched), s.handedOver p 0x30 l rest →
    let d := p
    let refuse := fun r : Reply => exec (.openAperture p) s = .next (s.taken p l rest r)
    let mine := l.arg 0 = domainValue d
    let bad := fun k : Nat =>
      (k = 1 ∧ l.arg 2 % 4096 ≠ 0) ∨ (k = 2 ∧ (l.arg 3 = 0 ∨ 262144 < l.arg 3)) ∨
      (k = 3 ∧ 2 ^ 32 < l.arg 2 + l.arg 3 * 4096) ∨ (k = 4 ∧ (l.arg 4 = 0 ∨ 3 < l.arg 4)) ∨
      (k = 5 ∧ (l.arg 5 = 0 ∨ 3 < l.arg 5))
    (s.online p = false → l.arg 0 < 2 → refuse (.plain .notOnline)) ∧
    (s.online p = true → l.arg 0 < 2 → 8 ≤ l.arg 1 → refuse (.plain .badAperture)) ∧
    ∀ i : ApertureNo, s.online p = true → l.arg 1 = i.val →
      (l.arg 0 < 2 → ¬mine → refuse (.plain .notOwner)) ∧
      (mine → (s.aperture d i).state ≠ .closed → refuse (.plain .inUse)) ∧
      (mine → (s.aperture d i).state = .closed → ∀ k, bad k → (∀ m, m < k → ¬bad m) →
        refuse (.badField k)) ∧
      (mine → (s.aperture d i).state = .closed → (∀ k, ¬bad k) →
        ∃ g : Grant,
          g.base = l.args.row 2 ∧ g.pages = l.arg 3 ∧ g.rights.value = l.arg 4 ∧
          g.grantees.value = l.arg 5 ∧
          let gen := (s.aperture d i).generation + 1
          exec (.openAperture p) s =
            .next
              (({ s.taken p l rest ⟨.ok, results 0 (BitVec.ofNat 32 gen.toNat) 0 0⟩ with
                  wires :=
                    { (s.taken p l rest ⟨.ok, results 0 (BitVec.ofNat 32 gen.toNat) 0 0⟩).wires with
                      postings :=
                        if g.grantees = .self then s.wires.postings
                        else
                          s.wires.postings.set p.peer
                            (s.wires.postings.get p.peer ++
                              [.apertureOffered d i gen g.base g.pages g.rights]) } } :
                State).setAperture d i
                { s.aperture d i with state := .open, grant := some g, generation := gen }))) ∧
  ∀ (s : State) (p : Port) (l : Latched) (rest : List Latched), s.handedOver p 0x32 l rest →
    ∀ d : Domain, l.arg 0 = domainValue d →
    (s.online p = false → exec (.queryAperture p) s = .next (s.taken p l rest (.plain .notOnline))) ∧
    (s.online p = true → 8 ≤ l.arg 1 →
      exec (.queryAperture p) s = .next (s.taken p l rest (.plain .badAperture))) ∧
    ∀ i : ApertureNo, s.online p = true → l.arg 1 = i.val →
      let x := s.aperture d i
      ∃ r : Table Word 4, exec (.queryAperture p) s = .next (s.taken p l rest ⟨.ok, r⟩) ∧
        let y := (r.row 0).toNat
        let gen := 4 * x.generation.toNat + 2 ^ 10
        (x.users ≤ 16 → (∀ g, x.grant = some g → g.pages ≤ 262144) →
          (p = d → x.grant = none →
            y = x.state.value + gen + 2 ^ 11 * x.users + 2 ^ 16 ∧
              r.row 1 = 0 ∧ r.row 2 = 0 ∧ r.row 3 = 0) ∧
          (p = d → ∀ g, x.grant = some g →
            y = x.state.value + gen + 2 ^ 11 * x.users + 2 ^ 16 + 2 ^ 17 * g.rights.value
                + 2 ^ 19 * g.grantees.value + 2 ^ 21 + 2 ^ 22 ∧
              r.row 1 = g.base ∧ (r.row 2).toNat = g.pages ∧ r.row 3 = 0) ∧
          (p ≠ d → ∀ g, x.grant = some g → x.state ≠ .closed → g.grantees ≠ .self →
            y = x.state.value + gen + 2 ^ 17 * g.rights.value + 2 ^ 22 ∧
              r.row 1 = g.base ∧ (r.row 2).toNat = g.pages ∧ r.row 3 = 0) ∧
          (p ≠ d → (x.state = .closed ∨ x.grant = none ∨ ∃ g, x.grant = some g ∧ g.grantees = .self) →
            y = x.state.value ∧ r.row 1 = 0 ∧ r.row 2 = 0 ∧ r.row 3 = 0))

/-- REVOKE_APERTURE makes the checks of R90 in order, ONLINE, an index and the own domain, then closes
an OPEN aperture without users at once and answers OK, and drains one with users and answers ACCEPTED,
each with the generation; DRAINING and CLOSED are answered WRONG_STATE (R94). A user's end lowers the
count, and the last end of a DRAINING aperture closes it (R103). A closing posts REVOKE_DONE to the own
port and APERTURE_WITHDRAWN to a peer that is a grantee (R95); in a teardown the last closing is
reported (R104; that a flag holds the teardown is the model's form, log entry 26). -/
def Obligations.AperturesDrainAndClose : Prop :=
  (∀ (s : State) (p : Port) (l : Latched) (rest : List Latched), s.handedOver p 0x31 l rest →
    let refuse := fun r : ResultCode => exec (.revokeAperture p) s = .next (s.taken p l rest (.plain r))
    l.arg 0 < 2 →
    (s.online p = false → refuse .notOnline) ∧
    (s.online p = true → 8 ≤ l.arg 1 → refuse .badAperture) ∧
    (s.online p = true → l.arg 1 < 8 → l.arg 0 ≠ domainValue p → refuse .notOwner)) ∧
  ∀ (s : State) (d : Domain) (i : ApertureNo),
    let x := s.aperture d i
    let notices := fun w : Wires =>
      match x.grant with
      | some g =>
        if g.grantees = .self then
          w.postings.set d (w.postings.get d ++ [.revokeDone d i x.generation])
        else
          (w.postings.set d (w.postings.get d ++ [.revokeDone d i x.generation])).set d.peer
            (w.postings.get d.peer ++ [.apertureWithdrawn d i x.generation])
      | none => w.postings.set d (w.postings.get d ++ [.revokeDone d i x.generation])
    let closed := fun u : State =>
      ({ u with wires := { u.wires with postings := notices s.wires } } : State).setAperture d i
        { x with state := .closed, users := 0 }
    (∀ (l : Latched) (rest : List Latched), s.handedOver d 0x31 l rest → s.online d = true →
      l.arg 0 = domainValue d → l.arg 1 = i.val →
      let gen : Word := BitVec.ofNat 32 x.generation.toNat
      (x.state ≠ .open →
        exec (.revokeAperture d) s = .next (s.taken d l rest (.plain .wrongState))) ∧
      (x.state = .open → x.users = 0 →
        exec (.revokeAperture d) s =
          .next (closed (s.taken d l rest ⟨.ok, results 0 gen 0 0⟩))) ∧
      (x.state = .open → 0 < x.users →
        exec (.revokeAperture d) s =
          .next
            ((s.taken d l rest ⟨.accepted, results 0 gen 0 0⟩).setAperture d i
              { x with state := .draining }))) ∧
    ∀ rest, s.wires.aperture.get d = .userEnd i :: rest → 0 < x.users →
      let u : State :=
        { s with wires := { s.wires with aperture := s.wires.aperture.set d rest } }
      (¬(x.state = .draining ∧ x.users = 1) →
        exec (.userEnd d) s = .next (u.setAperture d i { x with users := x.users - 1 })) ∧
      (x.state = .draining → x.users = 1 →
        ((s.apertureUnit d).clearing = false ∨ (∃ j, j ≠ i ∧ (s.aperture d j).state ≠ .closed) →
          exec (.userEnd d) s = .next (closed u)) ∧
        ((s.apertureUnit d).clearing = true → (∀ j, j ≠ i → (s.aperture d j).state = .closed) →
          exec (.userEnd d) s =
            .next
              { closed u with
                apertures :=
                  s.apertures.set d
                    { ((closed u).apertures.get d) with clearing := false }
                wires :=
                  { (closed u).wires with
                    fields := s.wires.fields.set d (s.wires.fields.get d ++ [.apertures]) } }))

/-! ### Reports, links and notices (Chapters 1, 7 and 8) -/

/-- The message that a channel has faulted makes a RUNNING channel STOPPING and changes no other record
(R66). A unit-end report at a RUNNING channel writes the progress, acknowledges the line that served
the unit, fires the link when its condition holds, and offers the notice of the policy: accepted, the
channel is READY or, with nothing remaining, IDLE; refused, it is POSTING with its notice parked
(R16–R19, R137). A unit-end report at a STOPPING channel is taken as its stop report, of cause ABORT or,
in its owner's teardown, TEARDOWN (R73). What follows in the run queue and at the line is the shared
write of the record. The model's choices here: the record names the line that served the unit (log entry
17), and the line of a dropped pending trigger hears of it by LINE_PENDING_DROP (log entry 16). -/
def Obligations.UnitEndReportsAreTaken : Prop :=
  ∀ (s : State) (ch : ChannelNo) (before after : List EngineReport) (b : ReportBody),
    s.wires.reports = before ++ ⟨ch, b⟩ :: after → (∀ x ∈ before, x.channel ≠ ch) →
    let u : State := { s with wires := { s.wires with reports := before ++ after } }
    let c := s.channel ch
    (b = .faulted →
      exec (.faultMessage ch) s =
        .next
          (if c.state = .running then
            { u with channels := s.channels.put ch { c with state := .stopping } }
          else u)) ∧
    (∀ (r : Progress) (o : Origin), b = .unitEnd r o → c.state = .stopping →
      exec (.unitEndReport ch) s =
        exec (.stopReport ch)
          { s with
            wires := { s.wires with reports := before ++ ⟨ch, .stop r .abort⟩ :: after } }) ∧
    ∀ (r : Progress) (o : Origin) (d : Loaded) (p : Port), b = .unitEnd r o →
      c.state = .running → c.loaded = some d → c.owner = some p →
      let left := d.remaining - r.done
      let base : Channel :=
        { c with
          loaded := some { d with curSrc := r.src, curDst := r.dst, remaining := left }
          origin := none, servedLine := none, afterState := none }
      let notice : Option ChannelNotice :=
        match d.program.policy with
        | .silent => none
        | .eachUnit =>
          some
            (if left = 0 then .channelDone ch left r.done o c.credit
            else .unitDone ch left r.done o)
        | .atEnd => if left = 0 then some (.channelDone ch left r.done o c.credit) else none
      let fires := fun k : Link => k.condition = .eachUnit ∨ left = 0
      let v : State :=
        { u with
          wires :=
            { u.wires with
              acks :=
                match c.origin, c.servedLine with
                | some .line, some n => s.wires.acks ++ [⟨n, ch⟩]
                | _, _ => s.wires.acks
              links :=
                match d.program.link with
                | some k => if fires k then s.wires.links ++ [⟨ch, p, k.target⟩] else s.wires.links
                | none => s.wires.links } }
      let entered := fun x : State =>
        (({ x with channels := s.channels.put ch { c with loaded := base.loaded } } : State).writeChannel
          ch
          (if left = 0 then { base with state := .idle, credit := 0, linePending := false }
          else { base with state := .ready })).channelAble ch
      let q := s.noticeUnit p
      (notice = none ∨ s.online p = false → exec (.unitEndReport ch) s = .next (entered v)) ∧
      ∀ n, notice = some n → s.online p = true →
        (q.queue.length < 28 →
          exec (.unitEndReport ch) s =
            .next
              (entered
                { v with
                  notices :=
                    s.notices.set p
                      { q with
                        queue := q.queue ++ [⟨.channel n, q.sequence, 1⟩]
                        sequence := q.sequence + 1 } })) ∧
        (28 ≤ q.queue.length →
          exec (.unitEndReport ch) s =
            .next
              (({ v with
                  notices := s.notices.set p { q with parking := q.parking ++ [⟨ch, n⟩] }
                  channels :=
                    s.channels.put ch
                      { base with
                        state := .posting
                        afterState := some (if left = 0 then .idle else .ready) } } :
                State).channelAble ch))

/-- A stop report at a STOPPING channel writes the progress, discards credit and pending line, returns
the line that served the unit, keeps or writes the fault record, and leaves the channel IDLE with an
ABORTED notice or FAULTED with a FAULT notice, or POSTING with the notice parked; no link fires (R22,
R23, R120). Under the owner's teardown the channel is FREE without notice (R23, R27). That its line
names it holds in every sound state. The model's choices here: a flag holds the teardown at the Channel
Table (log entry 26), the return names the line that served the unit (log entry 17), and the line of a
dropped pending trigger hears of it by LINE_PENDING_DROP (log entry 16). -/
def Obligations.StopReportsAreTaken : Prop :=
  ∀ (s : State) (ch : ChannelNo) (before after : List EngineReport) (r : Progress) (k : StopCause)
      (p : Port) (d : Loaded) (o : Origin),
    s.wires.reports = before ++ ⟨ch, .stop r k⟩ :: after → (∀ x ∈ before, x.channel ≠ ch) →
    let u : State := { s with wires := { s.wires with reports := before ++ after } }
    let c := s.channel ch
    c.state = .stopping → c.owner = some p → c.loaded = some d → c.origin = some o →
    (∀ n, c.mappedLine = some n → (s.line n).mapping = some ⟨ch, p⟩) →
    (k = .teardown ∨ s.tableClearing.get p = true →
      exec (.stopReport ch) s = .next ((u.freeChannel ch).reportChannels p) ∧
      ∀ t, exec (.stopReport ch) s = .next t →
        t.channel ch = ⟨none, .free, none, 0, none, false, none, none, none, none⟩ ∧
        ((s.tableClearing.get p = true ∧ ∀ x, (t.channel x).owner ≠ some p) →
          t.wires.fields.get p = s.wires.fields.get p ++ [.channels])) ∧
    (k ≠ .teardown → s.tableClearing.get p = false →
      let left := d.remaining - r.done
      let notice : ChannelNotice :=
        match k with
        | .fault f => .fault ch f
        | _ => .aborted ch left r.done o
      let stopped : Channel :=
        { c with
          loaded := some { d with curSrc := r.src, curDst := r.dst, remaining := left }
          credit := 0, linePending := false, origin := none, servedLine := none, afterState := none
          state :=
            match k with
            | .fault _ => .faulted
            | _ => .idle
          fault :=
            match k with
            | .fault f => some f
            | _ => c.fault }
      let v : State :=
        { u with
          wires :=
            { u.wires with
              returns :=
                match o, c.servedLine with
                | .line, some n => s.wires.returns ++ [⟨n, ch⟩]
                | _, _ => s.wires.returns } }
      let q := s.noticeUnit p
      (s.online p = false ∨ q.queue.length < 28 →
        exec (.stopReport ch) s =
          .next
            { v with
              channels := s.channels.put ch stopped
              notices :=
                if s.online p = true then
                  s.notices.set p
                    { q with
                      queue := q.queue ++ [⟨.channel notice, q.sequence, 1⟩]
                      sequence := q.sequence + 1 }
                else s.notices }) ∧
      (s.online p = true → 28 ≤ q.queue.length →
        exec (.stopReport ch) s =
          .next
            (({ v with
                channels :=
                  s.channels.put ch
                    { stopped with
                      state := .posting
                      afterState := some (match k with | .fault _ => .faulted | _ => .idle) }
                notices := s.notices.set p { q with parking := q.parking ++ [⟨ch, notice⟩] } } :
              State).channelAble ch)))

/-- A link delivery is refused NOT_OWNER, WRONG_STATE or CREDIT_FULL by the first check that fails, with
LINK_REFUSED to the source's owner, or discarded when that owner is not ONLINE as the delivery is
judged, and nothing changed at the target; otherwise the target gains one credit, and joins its run
queue when that makes it eligible (R24, R25). -/
def Obligations.LinkDeliveryAddsCreditOrIsRefused : Prop :=
  ∀ (s : State) (before after : List LinkWord) (w : LinkWord),
    s.wires.links = before ++ w :: after → s.RecordsSound →
    let u : State := { s with wires := { s.wires with links := before ++ after } }
    let c := s.channel w.target
    let refused := fun reason : RefusalReason =>
      exec (.linkDelivery before.length) s =
        .next
          { u with
            wires :=
              { u.wires with
                postings :=
                  if s.online w.owner = true then
                    s.wires.postings.set w.owner
                      (s.wires.postings.get w.owner ++ [.linkRefused w.source w.target reason])
                  else s.wires.postings } }
    let takes := c.state ∈ [ChannelState.ready, .running, .posting]
    (c.owner ≠ some w.owner → refused .notOwner) ∧
    (c.owner = some w.owner → ¬takes → refused .wrongState) ∧
    (c.owner = some w.owner → takes → c.credit = 15 → refused .creditFull) ∧
    (c.owner = some w.owner → takes → c.credit < 15 →
      let v : State := { u with channels := s.channels.put w.target { c with credit := c.credit + 1 } }
      (c.state = .ready → c.credit = 0 → c.linePending = false → ∀ d, c.loaded = some d →
        exec (.linkDelivery before.length) s =
          .next { v with
            trigger :=
              s.trigger.setQueue d.program.cls
                (s.trigger.queue d.program.cls ++ [w.target]) }) ∧
      (¬(c.state = .ready ∧ c.credit = 0 ∧ c.linePending = false) →
        exec (.linkDelivery before.length) s = .next v))

/-- A system notice is discarded when the port is not ONLINE; else it joins the queue while that holds
fewer than 32; else it merges into the deferred entry of its kind and subject, which takes its fields,
counts one more up to 255 and keeps its place; else it joins the Deferred Set (R138–R141). Kind and
subject are those a record shows (R166). -/
def Obligations.SystemNoticesQueueMergeOrDefer : Prop :=
  (∀ x y : SystemNotice, x.sameKey y = true ↔
    (Notice.system x).kind = (Notice.system y).kind ∧
      field (Notice.system x).body.1.toNat 0 8 = field (Notice.system y).body.1.toNat 0 8) ∧
  ∀ (s : State) (p : Port) (before after : List SystemNotice) (n : SystemNotice),
    s.wires.postings.get p = before ++ n :: after →
    let u : State :=
      { s with wires := { s.wires with postings := s.wires.postings.set p (before ++ after) } }
    let q := s.noticeUnit p
    let placed := fun x : NoticeUnit =>
      exec (.systemNoticePosting p before.length) s = .next { u with notices := s.notices.set p x }
    (s.online p = false → exec (.systemNoticePosting p before.length) s = .next u) ∧
    (s.online p = true → q.queue.length < 32 →
      placed
        { q with
          queue := q.queue ++ [⟨.system n, q.sequence, 1⟩], sequence := q.sequence + 1 }) ∧
    (s.online p = true → 32 ≤ q.queue.length →
      (∀ x y z, q.deferred = x ++ z :: y → z.notice.sameKey n = true →
        (∀ v ∈ x, v.notice.sameKey n = false) →
        placed { q with deferred := x ++ ⟨n, min 255 (z.repeats + 1)⟩ :: y }) ∧
      ((∀ v ∈ q.deferred, v.notice.sameKey n = false) →
        placed { q with deferred := q.deferred ++ [⟨n, 1⟩] }))

/-- POP_NOTICE answers the head of the queue, laid out as Table 10-9 gives, and refills by the first
case that applies: the oldest deferred entry with its repeat count; else, when fewer than 28 remain,
the oldest parked notice, whose channel goes to its after-state, IDLE and FAULTED without credit and
pending line; else nothing (R140, R142, R144, R166). An empty queue is answered QUEUE_EMPTY. -/
def Obligations.PopAnswersHeadAndRefills : Prop :=
  ∀ (s : State) (p : Port) (l : Latched) (rest : List Latched), s.handedOver p 0x40 l rest →
    let q := s.noticeUnit p
    (s.online p = false → exec (.popNotice p) s = .next (s.taken p l rest (.plain .notOnline))) ∧
    (s.online p = true → q.queue = [] →
      exec (.popNotice p) s = .next (s.taken p l rest (.plain .queueEmpty))) ∧
    ∀ x xs, s.online p = true → q.queue = x :: xs → ∃ r : Table Word 4,
      (x.repeats ≤ 255 → x.ShownIn r) ∧
      let popped := fun v : NoticeUnit =>
        ({ s.taken p l rest ⟨.ok, r⟩ with notices := s.notices.set p v } : State)
      (∀ y ys, q.deferred = y :: ys →
        exec (.popNotice p) s =
          .next
            (popped
              { q with
                queue := xs ++ [⟨.system y.notice, q.sequence, y.repeats⟩], deferred := ys
                sequence := q.sequence + 1 })) ∧
      (q.deferred = [] → (q.parking = [] ∨ 28 ≤ xs.length) →
        exec (.popNotice p) s = .next (popped { q with queue := xs })) ∧
      ∀ y ys a, q.deferred = [] → q.parking = y :: ys → xs.length < 28 →
        (s.channel y.channel).afterState = some a →
        let c := { s.channel y.channel with afterState := none, origin := none, servedLine := none }
        exec (.popNotice p) s =
          .next
            { popped
                { q with
                  queue := xs ++ [⟨.channel y.notice, q.sequence, 1⟩], parking := ys
                  sequence := q.sequence + 1 } with
              channels :=
                s.channels.put y.channel
                  (match a with
                  | .ready => { c with state := .ready }
                  | .idle => { c with state := .idle, credit := 0, linePending := false }
                  | .faulted => { c with state := .faulted, credit := 0, linePending := false }) }

/-! ### The window and the command cycle (Chapter 10) -/

/-- A write of CMD while IDLE latches the code with the arguments as they stand and hands the command
over; while BUSY it is dropped and sets DROPPED, whichever of the two rows names it (R160, R162; log
entry 6). The number that names the cycle, and its rise, are the model's choice (log entry 23). A write
of PSTAT clears DROPPED with bit 9 and acts on nothing else; ARG0–ARG7 take any write, BUSY or not, and
the latched arguments stay; INTEN passes bit 0 to the Notice Unit (R145, R159, R162). While PRSTx is
asserted every write is ignored (R153). That REGISTER_WRITE is ignored at every other offset, unaligned
ones included, is the model's reading (log entry 32), and so is it that a write stores the bits that no
layout assigns as well (log entry 44). -/
def Obligations.WindowWrites : Prop :=
  ∀ (s : State) (p : Port),
    (∀ (code : Word), ∀ c ∈ ([.commandLatch p code, .cmdWriteDropped p code] : List Instr),
      (s.prst.get p = false → (s.port p).latched = none →
        let l : Latched := ⟨(s.port p).nextCycle, code, (s.port p).args⟩
        exec c s =
          .next
            { s with
              ports :=
                s.ports.set p
                  { s.port p with
                    cmd := code, latched := some l, nextCycle := (s.port p).nextCycle + 1 }
              wires :=
                { s.wires with
                  handed := s.wires.handed.set p (s.wires.handed.get p ++ [l]) } }) ∧
      (s.prst.get p = false → (s.port p).latched.isSome →
        exec c s = .next { s with ports := s.ports.set p { s.port p with dropped := true } }) ∧
      (s.prst.get p = true → exec c s = .next s)) ∧
    (∀ value : Word,
      exec (.pstatWrite p value) s =
        .next
          (if s.prst.get p = false ∧ field value.toNat 9 1 = 1 then
            { s with ports := s.ports.set p { s.port p with dropped := false } }
          else s) ∧
      exec (.intenWrite p value) s =
        .next
          (if s.prst.get p = false then
            { s with
              notices :=
                s.notices.set p
                  { s.noticeUnit p with enable := decide (field value.toNat 0 1 = 1) } }
          else s)) ∧
    ∀ (offset : BitVec 6) (value : Word),
      (∀ i : Fin 8, offset.toNat = 4 * i.val + 4 → s.prst.get p = false →
        exec (.registerWrite p offset value) s =
          .next
            { s with
              ports := s.ports.set p { s.port p with args := (s.port p).args.put i value } }) ∧
      ((∀ i : Fin 8, offset.toNat ≠ 4 * i.val + 4) ∨ s.prst.get p = true →
        exec (.registerWrite p offset value) s = .next s)

/-- A read of the window returns the registers of Table 10-1, each at its offset, 0 elsewhere and 0
throughout while PRSTx is asserted (R153, R159). PSTAT shows both sessions, the command state, the
result code of Table 10-2, DROPPED, the notice count and the level of INTx, as Table 10-4 places them
(R164). INTx is asserted exactly while the queue holds a record and the enable is SET (R145). The codes
shown in the result registers are those of section 10.3 and Table 10-5. That a read is a function
and no step is the model's choice (log entry 27), and that an argument register reads back the bits that
no layout assigns is its reading (log entry 44). -/
def Obligations.WindowReadsBack : Prop :=
  (∀ (s : State) (p : Port) (offset : BitVec 6),
    let read := readWindow s p offset
    (s.prst.get p = true → read = 0) ∧
    (s.prst.get p = false →
      (offset.toNat = 0x00 → read = (s.port p).cmd) ∧
      (∀ i : Fin 8, offset.toNat = 0x04 + 4 * i.val → read = (s.port p).args.row i) ∧
      (∀ i : Fin 4, offset.toNat = 0x24 + 4 * i.val → read = (s.port p).res.row i) ∧
      (offset.toNat = 0x38 → read = if (s.noticeUnit p).enable then 1 else 0) ∧
      (offset.toNat = 0x3C ∨ offset.toNat % 4 ≠ 0 → read = 0) ∧
      (offset.toNat = 0x34 → (s.noticeUnit p).queue.length ≤ 32 →
        let session := fun x : Session =>
          match x with
          | .offline => 0
          | .online => 1
          | .clearing _ => 2
        let code :=
          match (s.port p).result with
          | .ok => 0
          | .accepted => 1
          | .notOnline => 2
          | .portClearing => 3
          | .unknownCommand => 4
          | .badChannel => 5
          | .notOwner => 6
          | .owned => 7
          | .wrongState => 8
          | .badField => 9
          | .creditFull => 10
          | .lineTaken => 11
          | .badLine => 12
          | .badAperture => 13
          | .inUse => 14
          | .queueEmpty => 15
        read.toNat =
          session (s.port p).session + 2 ^ 2 * session (s.port p.peer).session
            + (if (s.port p).latched.isSome then 2 ^ 4 else 0) + 2 ^ 5 * code
            + (if (s.port p).dropped then 2 ^ 9 else 0)
            + 2 ^ 10 * (s.noticeUnit p).queue.length
            + (if intLevel s p = true then 2 ^ 16 else 0)))) ∧
  (∀ (s : State) (p : Port),
    intLevel s p = true ↔ (s.noticeUnit p).queue ≠ [] ∧ (s.noticeUnit p).enable = true) ∧
  [ChannelState.free, .idle, .ready, .running, .stopping, .posting, .faulted].map
    ChannelState.value = [0, 1, 2, 3, 4, 5, 6] ∧
  ([none, some .a, some .b] : List (Option Port)).map ownerValue = [0, 1, 2] ∧
  [AfterState.ready, .idle, .faulted].map AfterState.value = [0, 1, 2] ∧
  [Origin.credit, .line].map Origin.value = [0, 1] ∧
  [FaultKind.accessDenied, .apertureRevoked, .readError, .writeError, .timeout, .domainReset].map
    FaultKind.value = [0, 1, 2, 3, 4, 5] ∧
  ([.a, .b] : List Domain).map domainValue = [0, 1] ∧
  [ApertureState.closed, .open, .draining].map ApertureState.value = [0, 1, 2] ∧
  [Rights.read, .write, .readWrite].map Rights.value = [1, 2, 3] ∧
  [Grantees.self, .peer, .both].map Grantees.value = [1, 2, 3] ∧
  [RefusalReason.notOwner, .wrongState, .creditFull].map RefusalReason.value = [0, 1, 2] ∧
  [EngineState.idle, .running, .stopping].map EngineState.value = [0, 1, 2] ∧
  [ElementSize.one, .two, .four, .eight].map ElementSize.value = [0, 1, 2, 3] ∧
  [Mode.single, .run, .block 1].map Mode.value = [0, 1, 2] ∧
  [Stepping.increment, .decrement, .fixed, .incrementRewind].map Stepping.value = [0, 1, 2, 3] ∧
  [SchedClass.urgent, .normal, .bulk].map SchedClass.value = [0, 1, 2] ∧
  [ReadAhead.depth2, .depth4, .depth8, .depth16, .depth32, .fair].map ReadAhead.value =
    [0, 1, 2, 3, 4, 5] ∧
  [NoticePolicy.eachUnit, .atEnd, .silent].map NoticePolicy.value = [0, 1, 2] ∧
  [LinkCondition.eachUnit, .atEnd].map LinkCondition.value = [0, 1]

/-- An answer is written, result and all four result registers, and the unit goes IDLE, when it names
the cycle latched; any other is discarded (R161). A command the unit owns itself is answered by it: an
unlisted code with UNKNOWN_COMMAND in any session, and an aperture command that names neither domain
with NOT_ONLINE or BAD_APERTURE (R163; log entries 20, 21 and 40). -/
def Obligations.AnswersAreWrittenForTheirCycle : Prop :=
  (∀ (s : State) (p : Port) (before after : List Answer) (a : Answer),
    s.wires.answers.get p = before ++ a :: after →
    let u : State :=
      { s with wires := { s.wires with answers := s.wires.answers.set p (before ++ after) } }
    (∀ l, (s.port p).latched = some l → l.cycle = a.cycle →
      exec (.commandAnswer p before.length) s =
        .next
          { u with
            ports :=
              s.ports.set p
                { s.port p with res := a.reply.res, result := a.reply.code, latched := none } }) ∧
    ((∀ l, (s.port p).latched = some l → l.cycle ≠ a.cycle) →
      exec (.commandAnswer p before.length) s = .next u)) ∧
  ∀ (s : State) (p : Port) (l : Latched) (rest : List Latched),
    s.wires.handed.get p = l :: rest → (s.port p).latched = some l →
    (l.code.toNat ∉
        [0x01, 0x02, 0x10, 0x11, 0x12, 0x13, 0x14, 0x15, 0x20, 0x21, 0x22, 0x28, 0x29, 0x30, 0x31,
          0x32, 0x38, 0x39, 0x40] →
      exec (.unknownCommandCode p) s = .next (s.written p rest (.plain .unknownCommand))) ∧
    ∀ (c : Instr) (code : Nat),
      (c, code) ∈
        ([(.openAperture p, 0x30), (.revokeAperture p, 0x31), (.queryAperture p, 0x32)] :
          List (Instr × Nat)) →
      l.code.toNat = code → 2 ≤ l.arg 0 →
      exec c s =
        .next
          (s.written p rest (.plain (if s.online p = true then .badAperture else .notOnline)))

/-! ### Sessions and teardown (Chapter 9) -/

/-- ANNOUNCE joins an OFFLINE port, answering the peer's session and the part, with PEER_READY to the
peer; DETACH starts a teardown of an ONLINE port: CLEARING with no completion field held, PEER_LOST to
the peer, and the directions to the four blocks. In the other sessions they are refused with nothing
changed (R149, R151, R154, R155). That the unit writes its own answer in the happening that takes the
command is the rule's for DETACH and the model's reading for ANNOUNCE (log entry 21). -/
def Obligations.AnnounceJoinsDetachLeaves : Prop :=
  ∀ (s : State) (p : Port) (l : Latched) (rest : List Latched),
    (s.port p).latched = some l →
    (s.handedOver p 0x01 l rest →
      let peer := (s.port p.peer).session.value
      let r : Reply :=
        ⟨.ok, results (BitVec.ofNat 32 peer) 0x5A64#32 0x02#32 0⟩
      ((s.port p).session = .offline →
        exec (.announce p) s =
          .next
            { s.written p rest r with
              ports := s.ports.set p
                { s.port p with
                  session := .online, res := r.res, result := .ok, latched := none }
              wires :=
                { (s.written p rest r).wires with
                  postings :=
                    s.wires.postings.set p.peer
                      (s.wires.postings.get p.peer ++ [.peerReady]) } }) ∧
      ((s.port p).session = .online →
        exec (.announce p) s = .next (s.written p rest (.plain .wrongState))) ∧
      ∀ t, (s.port p).session = .clearing t →
        exec (.announce p) s = .next (s.written p rest (.plain .portClearing))) ∧
    (s.handedOver p 0x02 l rest →
      let r : Reply := .plain .accepted
      ((s.port p).session = .online →
        exec (.detach p) s =
          .next
            { s.written p rest r with
              ports := s.ports.set p
                { s.port p with
                  session := .clearing ⟨.detach, false, false, false, false⟩
                  res := r.res, result := .accepted, latched := none }
              wires :=
                { (s.written p rest r).wires with
                  postings :=
                    s.wires.postings.set p.peer (s.wires.postings.get p.peer ++ [.peerLost])
                  directions :=
                    s.wires.directions.set p
                      ⟨true, true, true, true, (s.wires.directions.get p).abandon⟩ } }) ∧
      ((s.port p).session = .offline →
        exec (.detach p) s = .next (s.written p rest (.plain .notOnline))) ∧
      ∀ t, (s.port p).session = .clearing t →
        exec (.detach p) s = .next (s.written p rest (.plain .portClearing)))

/-- An assertion of PRSTx withdraws what the unit itself has not taken, ends a BUSY command without an
answer and clears DROPPED; ONLINE it starts a reset teardown, with the Bus Master directed to abandon
its bus; in a DETACH teardown it changes the cause and directs the abandonment; otherwise the session
stays. A release changes the level alone (R152–R155, R157). An assertion while asserted is no change
(log entry 35). -/
def Obligations.ResetLineFreezesAndTearsDown : Prop :=
  ∀ (s : State) (p : Port),
    exec (.prstxReleased p) s = .next { s with prst := s.prst.set p false } ∧
    (s.prst.get p = true → exec (.prstxAsserted p) s = .next s) ∧
    (s.prst.get p = false →
      let frozen : PortUnit :=
        { s.port p with latched := none, dropped := false, gather := none }
      let x := s.wires.directions.get p
      let u := fun (y : Session) (w : Wires) =>
        ({ s with
            prst := s.prst.set p true
            ports := s.ports.set p { frozen with session := y }
            wires :=
              { w with
                handed :=
                  s.wires.handed.set p ((s.wires.handed.get p).filter fun l => !unitOwned l) } } :
          State)
      ((s.port p).session = .offline →
        exec (.prstxAsserted p) s = .next (u .offline s.wires)) ∧
      ((s.port p).session = .online →
        exec (.prstxAsserted p) s =
          .next
            (u (.clearing ⟨.reset, false, false, false, false⟩)
              { s.wires with
                postings :=
                  s.wires.postings.set p.peer (s.wires.postings.get p.peer ++ [.peerLost])
                directions :=
                  s.wires.directions.set p ⟨true, true, true, true, x.abandon + 1⟩ })) ∧
      ∀ t, (s.port p).session = .clearing t →
        (t.cause = .reset → exec (.prstxAsserted p) s = .next (u (.clearing t) s.wires)) ∧
        (t.cause = .detach →
          exec (.prstxAsserted p) s =
            .next
              (u (.clearing { t with cause := .reset })
                { s.wires with
                  directions := s.wires.directions.set p { x with abandon := x.abandon + 1 } })))

/-- The Channel Table takes a teardown of a port: afterwards the port owns no channel but those that
were RUNNING or STOPPING, all of them now STOPPING with the teardown cause on its way, and with none of
those it reports (R26, R27). The Trigger Unit takes it: no line is mapped for the port, freed channels
leave the queues, and it confirms (R48). Nothing of the other port's channels changes. The model's
choices here: a flag holds the teardown at the Channel Table until its report (log entry 26), and the
Trigger Unit removes from the queues only channels already FREE (log entry 30). -/
def Obligations.TeardownTakesChannelsAndLines : Prop :=
  (∀ (s : State) (p : Port), (s.wires.directions.get p).channelTable = true → s.LinesSound →
    ∃ t, exec (.channelTableTeardown p) s = .next t ∧
      (t.wires.directions.get p).channelTable = false ∧
      (∀ ch, (s.channel ch).owner = some p →
        if (s.channel ch).state ∈ [ChannelState.running, .stopping] then
          t.channel ch = { s.channel ch with state := .stopping } ∧
            ⟨ch, .teardown⟩ ∈ t.wires.causes
        else t.channel ch = ⟨none, .free, none, 0, none, false, none, none, none, none⟩) ∧
      (∀ ch, (s.channel ch).owner ≠ some p → t.channel ch = s.channel ch) ∧
      ((∃ ch, (t.channel ch).owner = some p) →
        t.tableClearing.get p = true ∧ t.wires.fields = s.wires.fields) ∧
      ((∀ ch, (t.channel ch).owner ≠ some p) →
        t.tableClearing.get p = false ∧
          t.wires.fields = s.wires.fields.set p (s.wires.fields.get p ++ [.channels]))) ∧
  ∀ (s : State) (p : Port), (s.wires.directions.get p).triggerUnit = true → s.LinesSound →
    ∃ t, exec (.triggerUnitTeardown p) s = .next t ∧
      (t.wires.directions.get p).triggerUnit = false ∧
      t.wires.fields = s.wires.fields.set p (s.wires.fields.get p ++ [.lines]) ∧
      (∀ n, (∃ ch, (s.line n).mapping = some ⟨ch, p⟩) →
        (t.line n).state = .unmapped ∧ (t.line n).mapping = none) ∧
      (∀ n, (∀ ch, (s.line n).mapping ≠ some ⟨ch, p⟩) → t.line n = s.line n) ∧
      (∀ k ch, ch ∈ t.trigger.queue k → (t.channel ch).state ≠ .free) ∧
      ∀ ch,
        t.channel ch =
          (if ∃ n, (s.line n).mapping = some ⟨ch, p⟩ then
            { s.channel ch with mappedLine := none, linePending := false }
          else s.channel ch)

/-- The Aperture Unit takes a teardown: OPEN records close or drain, each closing posting REVOKE_DONE and,
to a peer that is a grantee, APERTURE_WITHDRAWN, and, all CLOSED, it reports (R95, R104; that a flag
holds the teardown until then is the model's form, log entry 26).
The Notice Unit empties its queue and Deferred Set, sets the sequence number to 0, keeps the Parking
List, and confirms (R146). Each report marks its field; with all four held the port is OFFLINE, and one
taken while the port is not CLEARING is ignored (R154, R156). -/
def Obligations.TeardownEndsOffline : Prop :=
  (∀ (s : State) (p : Port), (s.wires.directions.get p).apertureUnit = true →
    ∃ t, exec (.apertureUnitTeardown p) s = .next t ∧
      (t.wires.directions.get p).apertureUnit = false ∧
      (∀ i, t.aperture p i =
        { s.aperture p i with
          state :=
            if (s.aperture p i).state = .open then
              if (s.aperture p i).users = 0 then .closed else .draining
            else (s.aperture p i).state }) ∧
      (t.wires.fields =
        if ∀ i, (t.aperture p i).state = .closed then
          s.wires.fields.set p (s.wires.fields.get p ++ [.apertures])
        else s.wires.fields) ∧
      (let closing := (List.finRange 8).filter fun i =>
          (s.aperture p i).state = .open ∧ (s.aperture p i).users = 0
        let granted := closing.filter fun i =>
          match (s.aperture p i).grant with
          | some g => g.grantees ≠ .self
          | none => false
        t.wires.postings.get p =
            s.wires.postings.get p ++
              closing.map (fun i => .revokeDone p i (s.aperture p i).generation) ∧
          t.wires.postings.get p.peer =
            s.wires.postings.get p.peer ++
              granted.map (fun i => .apertureWithdrawn p i (s.aperture p i).generation)) ∧
      ((t.apertureUnit p).clearing = true ↔ ∃ i, (t.aperture p i).state ≠ .closed)) ∧
  (∀ (s : State) (p : Port), (s.wires.directions.get p).noticeUnit = true →
    exec (.noticeUnitClear p) s =
      .next
        { s with
          notices :=
            s.notices.set p { s.noticeUnit p with queue := [], deferred := [], sequence := 0 }
          wires :=
            { s.wires with
              directions :=
                s.wires.directions.set p { s.wires.directions.get p with noticeUnit := false }
              fields := s.wires.fields.set p (s.wires.fields.get p ++ [.notices]) } }) ∧
  ∀ (s : State) (p : Port) (f : TeardownField) (before after : List TeardownField),
    s.wires.fields.get p = before ++ f :: after → f ∉ before →
    let u : State :=
      { s with wires := { s.wires with fields := s.wires.fields.set p (before ++ after) } }
    ((∀ t, (s.port p).session ≠ .clearing t) → exec (.teardownReport p f) s = .next u) ∧
    ∀ t, (s.port p).session = .clearing t →
      let m : Teardown :=
        ⟨t.cause, t.channels || f = .channels, t.apertures || f = .apertures, t.lines || f = .lines,
          t.notices || f = .notices⟩
      exec (.teardownReport p f) s =
        .next
          { u with
            ports :=
              s.ports.set p
                { s.port p with
                  session :=
                    if m.channels ∧ m.apertures ∧ m.lines ∧ m.notices then .offline
                    else .clearing m } }

/-! ### Units under way (Chapters 1, 3 and 7) -/

/-- Every step keeps units in step between channels and engines. A READY, RUNNING, STOPPING or FAULTED
channel has at least one element remaining (R1), never more than its loaded count; each engine that is
not IDLE serves a channel of its own that is RUNNING or STOPPING, with an element of the unit still
unconfirmed (R51, R61, section 3.1); and a unit-end or stop report on its way names a channel that is
RUNNING or STOPPING, that no engine serves and no second such report names, with no more elements done
than remain, and for a stop fewer (R16, R61, R72). -/
def Obligations.UnitsStayInStep : Prop :=
  ∀ s t : State, s.RecordsSound → s.UnitsSound → step s = .next t → t.UnitsSound
end

