-- ==== Sys2Proof/Laws/Containers.lean ====
section
/-! SUPPORT. Reading back what was written in a pair of ports and in a table of rows. -/

namespace Sys2Proof

namespace PerPort

variable {α : Type}

@[simp] theorem get_set_self (v : PerPort α) (p : Port) (x : α) : (v.set p x).get p = x := by
  cases p <;> rfl

theorem get_set_of_ne (v : PerPort α) {p q : Port} (h : p ≠ q) (x : α) :
    (v.set p x).get q = v.get q := by
  cases p <;> cases q <;> first | rfl | exact absurd rfl h

theorem get_set (v : PerPort α) (p q : Port) (x : α) :
    (v.set p x).get q = if p = q then x else v.get q := by
  cases p <;> cases q <;> rfl

@[simp] theorem set_get_self (v : PerPort α) (p : Port) : v.set p (v.get p) = v := by
  cases p <;> rfl

@[simp] theorem set_set (v : PerPort α) (p : Port) (x y : α) : (v.set p x).set p y = v.set p y := by
  cases p <;> rfl

@[simp] theorem get_both (x : α) (p : Port) : (both x).get p = x := by cases p <;> rfl

theorem ext_get {v w : PerPort α} (h : ∀ p, v.get p = w.get p) : v = w := by
  cases v; cases w
  have ha := h .a
  have hb := h .b
  simp only [get] at ha hb
  simp [ha, hb]

end PerPort

namespace Table

variable {α : Type} {n : Nat}

theorem row_eq (t : Table α n) (i : Fin n) : t.row i = Vector.get t i := rfl

theorem get_eq (t : Vector α n) (i : Fin n) : Vector.get t i = t[i.val] := rfl

theorem row_put (t : Table α n) (i j : Fin n) (x : α) :
    (t.put i x).row j = if i = j then x else t.row j := by
  simp only [row_eq, get_eq, put, Vector.getElem_set, Fin.ext_iff]

@[simp] theorem row_put_self (t : Table α n) (i : Fin n) (x : α) : (t.put i x).row i = x := by
  simp [row_put]

theorem row_put_of_ne (t : Table α n) {i j : Fin n} (h : i ≠ j) (x : α) :
    (t.put i x).row j = t.row j := by
  simp [row_put, h]

@[simp] theorem row_fill (x : α) (i : Fin n) : (fill n x).row i = x := by
  simp [row_eq, get_eq, fill]

@[simp] theorem row_tabulate (f : Fin n → α) (i : Fin n) : (tabulate f).row i = f i := by
  simp [row_eq, get_eq, tabulate]

theorem ext_row {t u : Table α n} (h : ∀ i, t.row i = u.row i) : t = u := by
  apply Vector.ext
  intro i hi
  have := h ⟨i, hi⟩
  simpa [row_eq, get_eq] using this

@[simp] theorem put_row_self (t : Table α n) (i : Fin n) : t.put i (t.row i) = t := by
  apply ext_row
  intro j
  rw [row_put]
  split
  · next h => rw [h]
  · rfl

@[simp] theorem put_put (t : Table α n) (i : Fin n) (x y : α) : (t.put i x).put i y = t.put i y := by
  apply ext_row
  intro j
  simp only [row_put]
  split <;> rfl

end Table

end Sys2Proof
end

