-- ==== Sys2Proof/Laws/State.lean ====
section
/-! SUPPORT. One lemma for each field of the state and each update of it, so that no later proof
unfolds a record update. -/

namespace Sys2Proof.Machine

variable (s : State)

/-! ### setChannel -/

@[simp] theorem setChannel_channels (ch : ChannelNo) (c : Channel) :
    (s.setChannel ch c).channels = s.channels.put ch c := rfl
@[simp] theorem setChannel_tableClearing (ch : ChannelNo) (c : Channel) :
    (s.setChannel ch c).tableClearing = s.tableClearing := rfl
@[simp] theorem setChannel_trigger (ch : ChannelNo) (c : Channel) :
    (s.setChannel ch c).trigger = s.trigger := rfl
@[simp] theorem setChannel_lines (ch : ChannelNo) (c : Channel) :
    (s.setChannel ch c).lines = s.lines := rfl
@[simp] theorem setChannel_engines (ch : ChannelNo) (c : Channel) :
    (s.setChannel ch c).engines = s.engines := rfl
@[simp] theorem setChannel_pool (ch : ChannelNo) (c : Channel) :
    (s.setChannel ch c).pool = s.pool := rfl
@[simp] theorem setChannel_apertures (ch : ChannelNo) (c : Channel) :
    (s.setChannel ch c).apertures = s.apertures := rfl
@[simp] theorem setChannel_masters (ch : ChannelNo) (c : Channel) :
    (s.setChannel ch c).masters = s.masters := rfl
@[simp] theorem setChannel_notices (ch : ChannelNo) (c : Channel) :
    (s.setChannel ch c).notices = s.notices := rfl
@[simp] theorem setChannel_ports (ch : ChannelNo) (c : Channel) :
    (s.setChannel ch c).ports = s.ports := rfl
@[simp] theorem setChannel_wires (ch : ChannelNo) (c : Channel) :
    (s.setChannel ch c).wires = s.wires := rfl
@[simp] theorem setChannel_req (ch : ChannelNo) (c : Channel) :
    (s.setChannel ch c).req = s.req := rfl
@[simp] theorem setChannel_prst (ch : ChannelNo) (c : Channel) :
    (s.setChannel ch c).prst = s.prst := rfl
@[simp] theorem setChannel_clock (ch : ChannelNo) (c : Channel) :
    (s.setChannel ch c).clock = s.clock := rfl
@[simp] theorem setChannel_freeCount (ch : ChannelNo) (c : Channel) :
    (s.setChannel ch c).freeCount = s.freeCount := rfl
@[simp] theorem setChannel_pending (ch : ChannelNo) (c : Channel) :
    (s.setChannel ch c).pending = s.pending := rfl

/-! ### setLine -/

@[simp] theorem setLine_channels (l : LineNo) (x : Line) :
    (s.setLine l x).channels = s.channels := rfl
@[simp] theorem setLine_tableClearing (l : LineNo) (x : Line) :
    (s.setLine l x).tableClearing = s.tableClearing := rfl
@[simp] theorem setLine_trigger (l : LineNo) (x : Line) : (s.setLine l x).trigger = s.trigger := rfl
@[simp] theorem setLine_lines (l : LineNo) (x : Line) :
    (s.setLine l x).lines = s.lines.put l x := rfl
@[simp] theorem setLine_engines (l : LineNo) (x : Line) : (s.setLine l x).engines = s.engines := rfl
@[simp] theorem setLine_pool (l : LineNo) (x : Line) : (s.setLine l x).pool = s.pool := rfl
@[simp] theorem setLine_apertures (l : LineNo) (x : Line) :
    (s.setLine l x).apertures = s.apertures := rfl
@[simp] theorem setLine_masters (l : LineNo) (x : Line) : (s.setLine l x).masters = s.masters := rfl
@[simp] theorem setLine_notices (l : LineNo) (x : Line) : (s.setLine l x).notices = s.notices := rfl
@[simp] theorem setLine_ports (l : LineNo) (x : Line) : (s.setLine l x).ports = s.ports := rfl
@[simp] theorem setLine_wires (l : LineNo) (x : Line) : (s.setLine l x).wires = s.wires := rfl
@[simp] theorem setLine_req (l : LineNo) (x : Line) : (s.setLine l x).req = s.req := rfl
@[simp] theorem setLine_prst (l : LineNo) (x : Line) : (s.setLine l x).prst = s.prst := rfl
@[simp] theorem setLine_clock (l : LineNo) (x : Line) : (s.setLine l x).clock = s.clock := rfl
@[simp] theorem setLine_freeCount (l : LineNo) (x : Line) :
    (s.setLine l x).freeCount = s.freeCount := rfl
@[simp] theorem setLine_pending (l : LineNo) (x : Line) : (s.setLine l x).pending = s.pending := rfl

/-! ### setTrigger -/

@[simp] theorem setTrigger_channels (t : TriggerUnit) :
    (s.setTrigger t).channels = s.channels := rfl
@[simp] theorem setTrigger_tableClearing (t : TriggerUnit) :
    (s.setTrigger t).tableClearing = s.tableClearing := rfl
@[simp] theorem setTrigger_trigger (t : TriggerUnit) : (s.setTrigger t).trigger = t := rfl
@[simp] theorem setTrigger_lines (t : TriggerUnit) : (s.setTrigger t).lines = s.lines := rfl
@[simp] theorem setTrigger_engines (t : TriggerUnit) : (s.setTrigger t).engines = s.engines := rfl
@[simp] theorem setTrigger_pool (t : TriggerUnit) : (s.setTrigger t).pool = s.pool := rfl
@[simp] theorem setTrigger_apertures (t : TriggerUnit) :
    (s.setTrigger t).apertures = s.apertures := rfl
@[simp] theorem setTrigger_masters (t : TriggerUnit) : (s.setTrigger t).masters = s.masters := rfl
@[simp] theorem setTrigger_notices (t : TriggerUnit) : (s.setTrigger t).notices = s.notices := rfl
@[simp] theorem setTrigger_ports (t : TriggerUnit) : (s.setTrigger t).ports = s.ports := rfl
@[simp] theorem setTrigger_wires (t : TriggerUnit) : (s.setTrigger t).wires = s.wires := rfl
@[simp] theorem setTrigger_req (t : TriggerUnit) : (s.setTrigger t).req = s.req := rfl
@[simp] theorem setTrigger_prst (t : TriggerUnit) : (s.setTrigger t).prst = s.prst := rfl
@[simp] theorem setTrigger_clock (t : TriggerUnit) : (s.setTrigger t).clock = s.clock := rfl
@[simp] theorem setTrigger_freeCount (t : TriggerUnit) :
    (s.setTrigger t).freeCount = s.freeCount := rfl
@[simp] theorem setTrigger_pending (t : TriggerUnit) : (s.setTrigger t).pending = s.pending := rfl

/-! ### setEngine -/

@[simp] theorem setEngine_channels (e : EngineNo) (g : Engine) :
    (s.setEngine e g).channels = s.channels := rfl
@[simp] theorem setEngine_tableClearing (e : EngineNo) (g : Engine) :
    (s.setEngine e g).tableClearing = s.tableClearing := rfl
@[simp] theorem setEngine_trigger (e : EngineNo) (g : Engine) :
    (s.setEngine e g).trigger = s.trigger := rfl
@[simp] theorem setEngine_lines (e : EngineNo) (g : Engine) :
    (s.setEngine e g).lines = s.lines := rfl
@[simp] theorem setEngine_engines (e : EngineNo) (g : Engine) :
    (s.setEngine e g).engines = s.engines.put e g.reoffer := rfl
@[simp] theorem setEngine_pool (e : EngineNo) (g : Engine) : (s.setEngine e g).pool = s.pool := rfl
@[simp] theorem setEngine_apertures (e : EngineNo) (g : Engine) :
    (s.setEngine e g).apertures = s.apertures := rfl
@[simp] theorem setEngine_masters (e : EngineNo) (g : Engine) :
    (s.setEngine e g).masters = s.masters := rfl
@[simp] theorem setEngine_notices (e : EngineNo) (g : Engine) :
    (s.setEngine e g).notices = s.notices := rfl
@[simp] theorem setEngine_ports (e : EngineNo) (g : Engine) :
    (s.setEngine e g).ports = s.ports := rfl
@[simp] theorem setEngine_wires (e : EngineNo) (g : Engine) :
    (s.setEngine e g).wires = s.wires := rfl
@[simp] theorem setEngine_req (e : EngineNo) (g : Engine) : (s.setEngine e g).req = s.req := rfl
@[simp] theorem setEngine_prst (e : EngineNo) (g : Engine) : (s.setEngine e g).prst = s.prst := rfl
@[simp] theorem setEngine_clock (e : EngineNo) (g : Engine) :
    (s.setEngine e g).clock = s.clock := rfl
@[simp] theorem setEngine_freeCount (e : EngineNo) (g : Engine) :
    (s.setEngine e g).freeCount = s.freeCount := rfl
@[simp] theorem setEngine_pending (e : EngineNo) (g : Engine) :
    (s.setEngine e g).pending = s.pending := rfl

/-! ### setPool -/

@[simp] theorem setPool_channels (x : Pool) : (s.setPool x).channels = s.channels := rfl
@[simp] theorem setPool_tableClearing (x : Pool) :
    (s.setPool x).tableClearing = s.tableClearing := rfl
@[simp] theorem setPool_trigger (x : Pool) : (s.setPool x).trigger = s.trigger := rfl
@[simp] theorem setPool_lines (x : Pool) : (s.setPool x).lines = s.lines := rfl
@[simp] theorem setPool_engines (x : Pool) : (s.setPool x).engines = s.engines := rfl
@[simp] theorem setPool_pool (x : Pool) : (s.setPool x).pool = x := rfl
@[simp] theorem setPool_apertures (x : Pool) : (s.setPool x).apertures = s.apertures := rfl
@[simp] theorem setPool_masters (x : Pool) : (s.setPool x).masters = s.masters := rfl
@[simp] theorem setPool_notices (x : Pool) : (s.setPool x).notices = s.notices := rfl
@[simp] theorem setPool_ports (x : Pool) : (s.setPool x).ports = s.ports := rfl
@[simp] theorem setPool_wires (x : Pool) : (s.setPool x).wires = s.wires := rfl
@[simp] theorem setPool_req (x : Pool) : (s.setPool x).req = s.req := rfl
@[simp] theorem setPool_prst (x : Pool) : (s.setPool x).prst = s.prst := rfl
@[simp] theorem setPool_clock (x : Pool) : (s.setPool x).clock = s.clock := rfl
@[simp] theorem setPool_freeCount (x : Pool) : (s.setPool x).freeCount = s.freeCount := rfl
@[simp] theorem setPool_pending (x : Pool) : (s.setPool x).pending = s.pending := rfl

/-! ### setPoolEngine -/

@[simp] theorem setPoolEngine_channels (e : EngineNo) (x : PoolEngine) :
    (s.setPoolEngine e x).channels = s.channels := rfl
@[simp] theorem setPoolEngine_tableClearing (e : EngineNo) (x : PoolEngine) :
    (s.setPoolEngine e x).tableClearing = s.tableClearing := rfl
@[simp] theorem setPoolEngine_trigger (e : EngineNo) (x : PoolEngine) :
    (s.setPoolEngine e x).trigger = s.trigger := rfl
@[simp] theorem setPoolEngine_lines (e : EngineNo) (x : PoolEngine) :
    (s.setPoolEngine e x).lines = s.lines := rfl
@[simp] theorem setPoolEngine_engines (e : EngineNo) (x : PoolEngine) :
    (s.setPoolEngine e x).engines = s.engines := rfl
@[simp] theorem setPoolEngine_pool (e : EngineNo) (x : PoolEngine) :
    (s.setPoolEngine e x).pool = { s.pool with engines := s.pool.engines.put e x } := rfl
@[simp] theorem setPoolEngine_apertures (e : EngineNo) (x : PoolEngine) :
    (s.setPoolEngine e x).apertures = s.apertures := rfl
@[simp] theorem setPoolEngine_masters (e : EngineNo) (x : PoolEngine) :
    (s.setPoolEngine e x).masters = s.masters := rfl
@[simp] theorem setPoolEngine_notices (e : EngineNo) (x : PoolEngine) :
    (s.setPoolEngine e x).notices = s.notices := rfl
@[simp] theorem setPoolEngine_ports (e : EngineNo) (x : PoolEngine) :
    (s.setPoolEngine e x).ports = s.ports := rfl
@[simp] theorem setPoolEngine_wires (e : EngineNo) (x : PoolEngine) :
    (s.setPoolEngine e x).wires = s.wires := rfl
@[simp] theorem setPoolEngine_req (e : EngineNo) (x : PoolEngine) :
    (s.setPoolEngine e x).req = s.req := rfl
@[simp] theorem setPoolEngine_prst (e : EngineNo) (x : PoolEngine) :
    (s.setPoolEngine e x).prst = s.prst := rfl
@[simp] theorem setPoolEngine_clock (e : EngineNo) (x : PoolEngine) :
    (s.setPoolEngine e x).clock = s.clock := rfl
@[simp] theorem setPoolEngine_freeCount (e : EngineNo) (x : PoolEngine) :
    (s.setPoolEngine e x).freeCount = s.freeCount := rfl
@[simp] theorem setPoolEngine_pending (e : EngineNo) (x : PoolEngine) :
    (s.setPoolEngine e x).pending = s.pending := rfl

/-! ### setApertureUnit -/

@[simp] theorem setApertureUnit_channels (d : Domain) (x : ApertureUnit) :
    (s.setApertureUnit d x).channels = s.channels := rfl
@[simp] theorem setApertureUnit_tableClearing (d : Domain) (x : ApertureUnit) :
    (s.setApertureUnit d x).tableClearing = s.tableClearing := rfl
@[simp] theorem setApertureUnit_trigger (d : Domain) (x : ApertureUnit) :
    (s.setApertureUnit d x).trigger = s.trigger := rfl
@[simp] theorem setApertureUnit_lines (d : Domain) (x : ApertureUnit) :
    (s.setApertureUnit d x).lines = s.lines := rfl
@[simp] theorem setApertureUnit_engines (d : Domain) (x : ApertureUnit) :
    (s.setApertureUnit d x).engines = s.engines := rfl
@[simp] theorem setApertureUnit_pool (d : Domain) (x : ApertureUnit) :
    (s.setApertureUnit d x).pool = s.pool := rfl
@[simp] theorem setApertureUnit_apertures (d : Domain) (x : ApertureUnit) :
    (s.setApertureUnit d x).apertures = s.apertures.set d x := rfl
@[simp] theorem setApertureUnit_masters (d : Domain) (x : ApertureUnit) :
    (s.setApertureUnit d x).masters = s.masters := rfl
@[simp] theorem setApertureUnit_notices (d : Domain) (x : ApertureUnit) :
    (s.setApertureUnit d x).notices = s.notices := rfl
@[simp] theorem setApertureUnit_ports (d : Domain) (x : ApertureUnit) :
    (s.setApertureUnit d x).ports = s.ports := rfl
@[simp] theorem setApertureUnit_wires (d : Domain) (x : ApertureUnit) :
    (s.setApertureUnit d x).wires = s.wires := rfl
@[simp] theorem setApertureUnit_req (d : Domain) (x : ApertureUnit) :
    (s.setApertureUnit d x).req = s.req := rfl
@[simp] theorem setApertureUnit_prst (d : Domain) (x : ApertureUnit) :
    (s.setApertureUnit d x).prst = s.prst := rfl
@[simp] theorem setApertureUnit_clock (d : Domain) (x : ApertureUnit) :
    (s.setApertureUnit d x).clock = s.clock := rfl
@[simp] theorem setApertureUnit_freeCount (d : Domain) (x : ApertureUnit) :
    (s.setApertureUnit d x).freeCount = s.freeCount := rfl
@[simp] theorem setApertureUnit_pending (d : Domain) (x : ApertureUnit) :
    (s.setApertureUnit d x).pending = s.pending := rfl

/-! ### setAperture -/

@[simp] theorem setAperture_channels (d : Domain) (i : ApertureNo) (x : Aperture) :
    (s.setAperture d i x).channels = s.channels := rfl
@[simp] theorem setAperture_tableClearing (d : Domain) (i : ApertureNo) (x : Aperture) :
    (s.setAperture d i x).tableClearing = s.tableClearing := rfl
@[simp] theorem setAperture_trigger (d : Domain) (i : ApertureNo) (x : Aperture) :
    (s.setAperture d i x).trigger = s.trigger := rfl
@[simp] theorem setAperture_lines (d : Domain) (i : ApertureNo) (x : Aperture) :
    (s.setAperture d i x).lines = s.lines := rfl
@[simp] theorem setAperture_engines (d : Domain) (i : ApertureNo) (x : Aperture) :
    (s.setAperture d i x).engines = s.engines := rfl
@[simp] theorem setAperture_pool (d : Domain) (i : ApertureNo) (x : Aperture) :
    (s.setAperture d i x).pool = s.pool := rfl
@[simp] theorem setAperture_masters (d : Domain) (i : ApertureNo) (x : Aperture) :
    (s.setAperture d i x).masters = s.masters := rfl
@[simp] theorem setAperture_notices (d : Domain) (i : ApertureNo) (x : Aperture) :
    (s.setAperture d i x).notices = s.notices := rfl
@[simp] theorem setAperture_ports (d : Domain) (i : ApertureNo) (x : Aperture) :
    (s.setAperture d i x).ports = s.ports := rfl
@[simp] theorem setAperture_wires (d : Domain) (i : ApertureNo) (x : Aperture) :
    (s.setAperture d i x).wires = s.wires := rfl
@[simp] theorem setAperture_req (d : Domain) (i : ApertureNo) (x : Aperture) :
    (s.setAperture d i x).req = s.req := rfl
@[simp] theorem setAperture_prst (d : Domain) (i : ApertureNo) (x : Aperture) :
    (s.setAperture d i x).prst = s.prst := rfl
@[simp] theorem setAperture_clock (d : Domain) (i : ApertureNo) (x : Aperture) :
    (s.setAperture d i x).clock = s.clock := rfl
@[simp] theorem setAperture_freeCount (d : Domain) (i : ApertureNo) (x : Aperture) :
    (s.setAperture d i x).freeCount = s.freeCount := rfl
@[simp] theorem setAperture_pending (d : Domain) (i : ApertureNo) (x : Aperture) :
    (s.setAperture d i x).pending = s.pending := rfl

/-! ### setMaster -/

@[simp] theorem setMaster_channels (d : Domain) (x : BusMaster) :
    (s.setMaster d x).channels = s.channels := rfl
@[simp] theorem setMaster_tableClearing (d : Domain) (x : BusMaster) :
    (s.setMaster d x).tableClearing = s.tableClearing := rfl
@[simp] theorem setMaster_trigger (d : Domain) (x : BusMaster) :
    (s.setMaster d x).trigger = s.trigger := rfl
@[simp] theorem setMaster_lines (d : Domain) (x : BusMaster) :
    (s.setMaster d x).lines = s.lines := rfl
@[simp] theorem setMaster_engines (d : Domain) (x : BusMaster) :
    (s.setMaster d x).engines = s.engines := rfl
@[simp] theorem setMaster_pool (d : Domain) (x : BusMaster) : (s.setMaster d x).pool = s.pool := rfl
@[simp] theorem setMaster_apertures (d : Domain) (x : BusMaster) :
    (s.setMaster d x).apertures = s.apertures := rfl
@[simp] theorem setMaster_masters (d : Domain) (x : BusMaster) :
    (s.setMaster d x).masters = s.masters.set d x := rfl
@[simp] theorem setMaster_notices (d : Domain) (x : BusMaster) :
    (s.setMaster d x).notices = s.notices := rfl
@[simp] theorem setMaster_ports (d : Domain) (x : BusMaster) :
    (s.setMaster d x).ports = s.ports := rfl
@[simp] theorem setMaster_wires (d : Domain) (x : BusMaster) :
    (s.setMaster d x).wires = s.wires := rfl
@[simp] theorem setMaster_req (d : Domain) (x : BusMaster) : (s.setMaster d x).req = s.req := rfl
@[simp] theorem setMaster_prst (d : Domain) (x : BusMaster) : (s.setMaster d x).prst = s.prst := rfl
@[simp] theorem setMaster_clock (d : Domain) (x : BusMaster) :
    (s.setMaster d x).clock = s.clock := rfl
@[simp] theorem setMaster_freeCount (d : Domain) (x : BusMaster) :
    (s.setMaster d x).freeCount = s.freeCount := rfl
@[simp] theorem setMaster_pending (d : Domain) (x : BusMaster) :
    (s.setMaster d x).pending = s.pending := rfl

/-! ### setNoticeUnit -/

@[simp] theorem setNoticeUnit_channels (p : Port) (x : NoticeUnit) :
    (s.setNoticeUnit p x).channels = s.channels := rfl
@[simp] theorem setNoticeUnit_tableClearing (p : Port) (x : NoticeUnit) :
    (s.setNoticeUnit p x).tableClearing = s.tableClearing := rfl
@[simp] theorem setNoticeUnit_trigger (p : Port) (x : NoticeUnit) :
    (s.setNoticeUnit p x).trigger = s.trigger := rfl
@[simp] theorem setNoticeUnit_lines (p : Port) (x : NoticeUnit) :
    (s.setNoticeUnit p x).lines = s.lines := rfl
@[simp] theorem setNoticeUnit_engines (p : Port) (x : NoticeUnit) :
    (s.setNoticeUnit p x).engines = s.engines := rfl
@[simp] theorem setNoticeUnit_pool (p : Port) (x : NoticeUnit) :
    (s.setNoticeUnit p x).pool = s.pool := rfl
@[simp] theorem setNoticeUnit_apertures (p : Port) (x : NoticeUnit) :
    (s.setNoticeUnit p x).apertures = s.apertures := rfl
@[simp] theorem setNoticeUnit_masters (p : Port) (x : NoticeUnit) :
    (s.setNoticeUnit p x).masters = s.masters := rfl
@[simp] theorem setNoticeUnit_notices (p : Port) (x : NoticeUnit) :
    (s.setNoticeUnit p x).notices = s.notices.set p x := rfl
@[simp] theorem setNoticeUnit_ports (p : Port) (x : NoticeUnit) :
    (s.setNoticeUnit p x).ports = s.ports := rfl
@[simp] theorem setNoticeUnit_wires (p : Port) (x : NoticeUnit) :
    (s.setNoticeUnit p x).wires = s.wires := rfl
@[simp] theorem setNoticeUnit_req (p : Port) (x : NoticeUnit) :
    (s.setNoticeUnit p x).req = s.req := rfl
@[simp] theorem setNoticeUnit_prst (p : Port) (x : NoticeUnit) :
    (s.setNoticeUnit p x).prst = s.prst := rfl
@[simp] theorem setNoticeUnit_clock (p : Port) (x : NoticeUnit) :
    (s.setNoticeUnit p x).clock = s.clock := rfl
@[simp] theorem setNoticeUnit_freeCount (p : Port) (x : NoticeUnit) :
    (s.setNoticeUnit p x).freeCount = s.freeCount := rfl
@[simp] theorem setNoticeUnit_pending (p : Port) (x : NoticeUnit) :
    (s.setNoticeUnit p x).pending = s.pending := rfl

/-! ### setPort -/

@[simp] theorem setPort_channels (p : Port) (x : PortUnit) :
    (s.setPort p x).channels = s.channels := rfl
@[simp] theorem setPort_tableClearing (p : Port) (x : PortUnit) :
    (s.setPort p x).tableClearing = s.tableClearing := rfl
@[simp] theorem setPort_trigger (p : Port) (x : PortUnit) :
    (s.setPort p x).trigger = s.trigger := rfl
@[simp] theorem setPort_lines (p : Port) (x : PortUnit) : (s.setPort p x).lines = s.lines := rfl
@[simp] theorem setPort_engines (p : Port) (x : PortUnit) :
    (s.setPort p x).engines = s.engines := rfl
@[simp] theorem setPort_pool (p : Port) (x : PortUnit) : (s.setPort p x).pool = s.pool := rfl
@[simp] theorem setPort_apertures (p : Port) (x : PortUnit) :
    (s.setPort p x).apertures = s.apertures := rfl
@[simp] theorem setPort_masters (p : Port) (x : PortUnit) :
    (s.setPort p x).masters = s.masters := rfl
@[simp] theorem setPort_notices (p : Port) (x : PortUnit) :
    (s.setPort p x).notices = s.notices := rfl
@[simp] theorem setPort_ports (p : Port) (x : PortUnit) :
    (s.setPort p x).ports = s.ports.set p x := rfl
@[simp] theorem setPort_wires (p : Port) (x : PortUnit) : (s.setPort p x).wires = s.wires := rfl
@[simp] theorem setPort_req (p : Port) (x : PortUnit) : (s.setPort p x).req = s.req := rfl
@[simp] theorem setPort_prst (p : Port) (x : PortUnit) : (s.setPort p x).prst = s.prst := rfl
@[simp] theorem setPort_clock (p : Port) (x : PortUnit) : (s.setPort p x).clock = s.clock := rfl
@[simp] theorem setPort_freeCount (p : Port) (x : PortUnit) :
    (s.setPort p x).freeCount = s.freeCount := rfl
@[simp] theorem setPort_pending (p : Port) (x : PortUnit) :
    (s.setPort p x).pending = s.pending := rfl

/-! ### setSession -/

@[simp] theorem setSession_channels (p : Port) (x : Session) :
    (s.setSession p x).channels = s.channels := rfl
@[simp] theorem setSession_tableClearing (p : Port) (x : Session) :
    (s.setSession p x).tableClearing = s.tableClearing := rfl
@[simp] theorem setSession_trigger (p : Port) (x : Session) :
    (s.setSession p x).trigger = s.trigger := rfl
@[simp] theorem setSession_lines (p : Port) (x : Session) :
    (s.setSession p x).lines = s.lines := rfl
@[simp] theorem setSession_engines (p : Port) (x : Session) :
    (s.setSession p x).engines = s.engines := rfl
@[simp] theorem setSession_pool (p : Port) (x : Session) : (s.setSession p x).pool = s.pool := rfl
@[simp] theorem setSession_apertures (p : Port) (x : Session) :
    (s.setSession p x).apertures = s.apertures := rfl
@[simp] theorem setSession_masters (p : Port) (x : Session) :
    (s.setSession p x).masters = s.masters := rfl
@[simp] theorem setSession_notices (p : Port) (x : Session) :
    (s.setSession p x).notices = s.notices := rfl
@[simp] theorem setSession_wires (p : Port) (x : Session) :
    (s.setSession p x).wires = s.wires := rfl
@[simp] theorem setSession_req (p : Port) (x : Session) : (s.setSession p x).req = s.req := rfl
@[simp] theorem setSession_prst (p : Port) (x : Session) : (s.setSession p x).prst = s.prst := rfl
@[simp] theorem setSession_clock (p : Port) (x : Session) :
    (s.setSession p x).clock = s.clock := rfl
@[simp] theorem setSession_freeCount (p : Port) (x : Session) :
    (s.setSession p x).freeCount = s.freeCount := rfl
@[simp] theorem setSession_pending (p : Port) (x : Session) :
    (s.setSession p x).pending = s.pending := rfl

/-! ### setTableClearing -/

@[simp] theorem setTableClearing_channels (p : Port) (b : Bool) :
    (s.setTableClearing p b).channels = s.channels := rfl
@[simp] theorem setTableClearing_tableClearing (p : Port) (b : Bool) :
    (s.setTableClearing p b).tableClearing = s.tableClearing.set p b := rfl
@[simp] theorem setTableClearing_trigger (p : Port) (b : Bool) :
    (s.setTableClearing p b).trigger = s.trigger := rfl
@[simp] theorem setTableClearing_lines (p : Port) (b : Bool) :
    (s.setTableClearing p b).lines = s.lines := rfl
@[simp] theorem setTableClearing_engines (p : Port) (b : Bool) :
    (s.setTableClearing p b).engines = s.engines := rfl
@[simp] theorem setTableClearing_pool (p : Port) (b : Bool) :
    (s.setTableClearing p b).pool = s.pool := rfl
@[simp] theorem setTableClearing_apertures (p : Port) (b : Bool) :
    (s.setTableClearing p b).apertures = s.apertures := rfl
@[simp] theorem setTableClearing_masters (p : Port) (b : Bool) :
    (s.setTableClearing p b).masters = s.masters := rfl
@[simp] theorem setTableClearing_notices (p : Port) (b : Bool) :
    (s.setTableClearing p b).notices = s.notices := rfl
@[simp] theorem setTableClearing_ports (p : Port) (b : Bool) :
    (s.setTableClearing p b).ports = s.ports := rfl
@[simp] theorem setTableClearing_wires (p : Port) (b : Bool) :
    (s.setTableClearing p b).wires = s.wires := rfl
@[simp] theorem setTableClearing_req (p : Port) (b : Bool) :
    (s.setTableClearing p b).req = s.req := rfl
@[simp] theorem setTableClearing_prst (p : Port) (b : Bool) :
    (s.setTableClearing p b).prst = s.prst := rfl
@[simp] theorem setTableClearing_clock (p : Port) (b : Bool) :
    (s.setTableClearing p b).clock = s.clock := rfl
@[simp] theorem setTableClearing_freeCount (p : Port) (b : Bool) :
    (s.setTableClearing p b).freeCount = s.freeCount := rfl
@[simp] theorem setTableClearing_pending (p : Port) (b : Bool) :
    (s.setTableClearing p b).pending = s.pending := rfl

/-! ### setReq -/

@[simp] theorem setReq_channels (l : LineNo) (b : Bool) :
    (s.setReq l b).channels = s.channels := rfl
@[simp] theorem setReq_tableClearing (l : LineNo) (b : Bool) :
    (s.setReq l b).tableClearing = s.tableClearing := rfl
@[simp] theorem setReq_trigger (l : LineNo) (b : Bool) : (s.setReq l b).trigger = s.trigger := rfl
@[simp] theorem setReq_lines (l : LineNo) (b : Bool) : (s.setReq l b).lines = s.lines := rfl
@[simp] theorem setReq_engines (l : LineNo) (b : Bool) : (s.setReq l b).engines = s.engines := rfl
@[simp] theorem setReq_pool (l : LineNo) (b : Bool) : (s.setReq l b).pool = s.pool := rfl
@[simp] theorem setReq_apertures (l : LineNo) (b : Bool) :
    (s.setReq l b).apertures = s.apertures := rfl
@[simp] theorem setReq_masters (l : LineNo) (b : Bool) : (s.setReq l b).masters = s.masters := rfl
@[simp] theorem setReq_notices (l : LineNo) (b : Bool) : (s.setReq l b).notices = s.notices := rfl
@[simp] theorem setReq_ports (l : LineNo) (b : Bool) : (s.setReq l b).ports = s.ports := rfl
@[simp] theorem setReq_wires (l : LineNo) (b : Bool) : (s.setReq l b).wires = s.wires := rfl
@[simp] theorem setReq_req (l : LineNo) (b : Bool) : (s.setReq l b).req = s.req.put l b := rfl
@[simp] theorem setReq_prst (l : LineNo) (b : Bool) : (s.setReq l b).prst = s.prst := rfl
@[simp] theorem setReq_clock (l : LineNo) (b : Bool) : (s.setReq l b).clock = s.clock := rfl
@[simp] theorem setReq_freeCount (l : LineNo) (b : Bool) :
    (s.setReq l b).freeCount = s.freeCount := rfl
@[simp] theorem setReq_pending (l : LineNo) (b : Bool) : (s.setReq l b).pending = s.pending := rfl

/-! ### drawFree -/

@[simp] theorem drawFree_channels (n : Nat) : (s.drawFree n).channels = s.channels := rfl
@[simp] theorem drawFree_tableClearing (n : Nat) :
    (s.drawFree n).tableClearing = s.tableClearing := rfl
@[simp] theorem drawFree_trigger (n : Nat) : (s.drawFree n).trigger = s.trigger := rfl
@[simp] theorem drawFree_lines (n : Nat) : (s.drawFree n).lines = s.lines := rfl
@[simp] theorem drawFree_engines (n : Nat) : (s.drawFree n).engines = s.engines := rfl
@[simp] theorem drawFree_pool (n : Nat) : (s.drawFree n).pool = s.pool := rfl
@[simp] theorem drawFree_apertures (n : Nat) : (s.drawFree n).apertures = s.apertures := rfl
@[simp] theorem drawFree_masters (n : Nat) : (s.drawFree n).masters = s.masters := rfl
@[simp] theorem drawFree_notices (n : Nat) : (s.drawFree n).notices = s.notices := rfl
@[simp] theorem drawFree_ports (n : Nat) : (s.drawFree n).ports = s.ports := rfl
@[simp] theorem drawFree_wires (n : Nat) : (s.drawFree n).wires = s.wires := rfl
@[simp] theorem drawFree_req (n : Nat) : (s.drawFree n).req = s.req := rfl
@[simp] theorem drawFree_prst (n : Nat) : (s.drawFree n).prst = s.prst := rfl
@[simp] theorem drawFree_clock (n : Nat) : (s.drawFree n).clock = s.clock := rfl
@[simp] theorem drawFree_freeCount (n : Nat) : (s.drawFree n).freeCount = s.freeCount + n := rfl
@[simp] theorem drawFree_pending (n : Nat) : (s.drawFree n).pending = s.pending := rfl

/-! ### setWires -/

@[simp] theorem setWires_channels (w : Wires) : (s.setWires w).channels = s.channels := rfl
@[simp] theorem setWires_tableClearing (w : Wires) :
    (s.setWires w).tableClearing = s.tableClearing := rfl
@[simp] theorem setWires_trigger (w : Wires) : (s.setWires w).trigger = s.trigger := rfl
@[simp] theorem setWires_lines (w : Wires) : (s.setWires w).lines = s.lines := rfl
@[simp] theorem setWires_engines (w : Wires) : (s.setWires w).engines = s.engines := rfl
@[simp] theorem setWires_pool (w : Wires) : (s.setWires w).pool = s.pool := rfl
@[simp] theorem setWires_apertures (w : Wires) : (s.setWires w).apertures = s.apertures := rfl
@[simp] theorem setWires_masters (w : Wires) : (s.setWires w).masters = s.masters := rfl
@[simp] theorem setWires_notices (w : Wires) : (s.setWires w).notices = s.notices := rfl
@[simp] theorem setWires_ports (w : Wires) : (s.setWires w).ports = s.ports := rfl
@[simp] theorem setWires_wires (w : Wires) : (s.setWires w).wires = w := rfl
@[simp] theorem setWires_req (w : Wires) : (s.setWires w).req = s.req := rfl
@[simp] theorem setWires_prst (w : Wires) : (s.setWires w).prst = s.prst := rfl
@[simp] theorem setWires_clock (w : Wires) : (s.setWires w).clock = s.clock := rfl
@[simp] theorem setWires_freeCount (w : Wires) : (s.setWires w).freeCount = s.freeCount := rfl
@[simp] theorem setWires_pending (w : Wires) : (s.setWires w).pending = s.pending := rfl

/-! ### setHanded -/

@[simp] theorem setHanded_channels (p : Port) (ls : List Latched) :
    (s.setHanded p ls).channels = s.channels := rfl
@[simp] theorem setHanded_tableClearing (p : Port) (ls : List Latched) :
    (s.setHanded p ls).tableClearing = s.tableClearing := rfl
@[simp] theorem setHanded_trigger (p : Port) (ls : List Latched) :
    (s.setHanded p ls).trigger = s.trigger := rfl
@[simp] theorem setHanded_lines (p : Port) (ls : List Latched) :
    (s.setHanded p ls).lines = s.lines := rfl
@[simp] theorem setHanded_engines (p : Port) (ls : List Latched) :
    (s.setHanded p ls).engines = s.engines := rfl
@[simp] theorem setHanded_pool (p : Port) (ls : List Latched) :
    (s.setHanded p ls).pool = s.pool := rfl
@[simp] theorem setHanded_apertures (p : Port) (ls : List Latched) :
    (s.setHanded p ls).apertures = s.apertures := rfl
@[simp] theorem setHanded_masters (p : Port) (ls : List Latched) :
    (s.setHanded p ls).masters = s.masters := rfl
@[simp] theorem setHanded_notices (p : Port) (ls : List Latched) :
    (s.setHanded p ls).notices = s.notices := rfl
@[simp] theorem setHanded_ports (p : Port) (ls : List Latched) :
    (s.setHanded p ls).ports = s.ports := rfl
@[simp] theorem setHanded_wires (p : Port) (ls : List Latched) :
    (s.setHanded p ls).wires = { s.wires with handed := s.wires.handed.set p ls } := rfl
@[simp] theorem setHanded_req (p : Port) (ls : List Latched) : (s.setHanded p ls).req = s.req := rfl
@[simp] theorem setHanded_prst (p : Port) (ls : List Latched) :
    (s.setHanded p ls).prst = s.prst := rfl
@[simp] theorem setHanded_clock (p : Port) (ls : List Latched) :
    (s.setHanded p ls).clock = s.clock := rfl
@[simp] theorem setHanded_freeCount (p : Port) (ls : List Latched) :
    (s.setHanded p ls).freeCount = s.freeCount := rfl
@[simp] theorem setHanded_pending (p : Port) (ls : List Latched) :
    (s.setHanded p ls).pending = s.pending := rfl

/-! ### setDirections -/

@[simp] theorem setDirections_channels (p : Port) (x : Directions) :
    (s.setDirections p x).channels = s.channels := rfl
@[simp] theorem setDirections_tableClearing (p : Port) (x : Directions) :
    (s.setDirections p x).tableClearing = s.tableClearing := rfl
@[simp] theorem setDirections_trigger (p : Port) (x : Directions) :
    (s.setDirections p x).trigger = s.trigger := rfl
@[simp] theorem setDirections_lines (p : Port) (x : Directions) :
    (s.setDirections p x).lines = s.lines := rfl
@[simp] theorem setDirections_engines (p : Port) (x : Directions) :
    (s.setDirections p x).engines = s.engines := rfl
@[simp] theorem setDirections_pool (p : Port) (x : Directions) :
    (s.setDirections p x).pool = s.pool := rfl
@[simp] theorem setDirections_apertures (p : Port) (x : Directions) :
    (s.setDirections p x).apertures = s.apertures := rfl
@[simp] theorem setDirections_masters (p : Port) (x : Directions) :
    (s.setDirections p x).masters = s.masters := rfl
@[simp] theorem setDirections_notices (p : Port) (x : Directions) :
    (s.setDirections p x).notices = s.notices := rfl
@[simp] theorem setDirections_ports (p : Port) (x : Directions) :
    (s.setDirections p x).ports = s.ports := rfl
@[simp] theorem setDirections_wires (p : Port) (x : Directions) :
    (s.setDirections p x).wires = { s.wires with directions := s.wires.directions.set p x } := rfl
@[simp] theorem setDirections_req (p : Port) (x : Directions) :
    (s.setDirections p x).req = s.req := rfl
@[simp] theorem setDirections_prst (p : Port) (x : Directions) :
    (s.setDirections p x).prst = s.prst := rfl
@[simp] theorem setDirections_clock (p : Port) (x : Directions) :
    (s.setDirections p x).clock = s.clock := rfl
@[simp] theorem setDirections_freeCount (p : Port) (x : Directions) :
    (s.setDirections p x).freeCount = s.freeCount := rfl
@[simp] theorem setDirections_pending (p : Port) (x : Directions) :
    (s.setDirections p x).pending = s.pending := rfl

/-! ### setAdmissionReply -/

@[simp] theorem setAdmissionReply_channels (d : Domain) (r : Option AdmissionReply) :
    (s.setAdmissionReply d r).channels = s.channels := rfl
@[simp] theorem setAdmissionReply_tableClearing (d : Domain) (r : Option AdmissionReply) :
    (s.setAdmissionReply d r).tableClearing = s.tableClearing := rfl
@[simp] theorem setAdmissionReply_trigger (d : Domain) (r : Option AdmissionReply) :
    (s.setAdmissionReply d r).trigger = s.trigger := rfl
@[simp] theorem setAdmissionReply_lines (d : Domain) (r : Option AdmissionReply) :
    (s.setAdmissionReply d r).lines = s.lines := rfl
@[simp] theorem setAdmissionReply_engines (d : Domain) (r : Option AdmissionReply) :
    (s.setAdmissionReply d r).engines = s.engines := rfl
@[simp] theorem setAdmissionReply_pool (d : Domain) (r : Option AdmissionReply) :
    (s.setAdmissionReply d r).pool = s.pool := rfl
@[simp] theorem setAdmissionReply_apertures (d : Domain) (r : Option AdmissionReply) :
    (s.setAdmissionReply d r).apertures = s.apertures := rfl
@[simp] theorem setAdmissionReply_masters (d : Domain) (r : Option AdmissionReply) :
    (s.setAdmissionReply d r).masters = s.masters := rfl
@[simp] theorem setAdmissionReply_notices (d : Domain) (r : Option AdmissionReply) :
    (s.setAdmissionReply d r).notices = s.notices := rfl
@[simp] theorem setAdmissionReply_ports (d : Domain) (r : Option AdmissionReply) :
    (s.setAdmissionReply d r).ports = s.ports := rfl
@[simp] theorem setAdmissionReply_wires (d : Domain) (r : Option AdmissionReply) :
    (s.setAdmissionReply d r).wires = { s.wires with admissions := s.wires.admissions.set d r } := rfl
@[simp] theorem setAdmissionReply_req (d : Domain) (r : Option AdmissionReply) :
    (s.setAdmissionReply d r).req = s.req := rfl
@[simp] theorem setAdmissionReply_prst (d : Domain) (r : Option AdmissionReply) :
    (s.setAdmissionReply d r).prst = s.prst := rfl
@[simp] theorem setAdmissionReply_clock (d : Domain) (r : Option AdmissionReply) :
    (s.setAdmissionReply d r).clock = s.clock := rfl
@[simp] theorem setAdmissionReply_freeCount (d : Domain) (r : Option AdmissionReply) :
    (s.setAdmissionReply d r).freeCount = s.freeCount := rfl
@[simp] theorem setAdmissionReply_pending (d : Domain) (r : Option AdmissionReply) :
    (s.setAdmissionReply d r).pending = s.pending := rfl

/-! ### setApertureWords -/

@[simp] theorem setApertureWords_channels (d : Domain) (ws : List ApertureWord) :
    (s.setApertureWords d ws).channels = s.channels := rfl
@[simp] theorem setApertureWords_tableClearing (d : Domain) (ws : List ApertureWord) :
    (s.setApertureWords d ws).tableClearing = s.tableClearing := rfl
@[simp] theorem setApertureWords_trigger (d : Domain) (ws : List ApertureWord) :
    (s.setApertureWords d ws).trigger = s.trigger := rfl
@[simp] theorem setApertureWords_lines (d : Domain) (ws : List ApertureWord) :
    (s.setApertureWords d ws).lines = s.lines := rfl
@[simp] theorem setApertureWords_engines (d : Domain) (ws : List ApertureWord) :
    (s.setApertureWords d ws).engines = s.engines := rfl
@[simp] theorem setApertureWords_pool (d : Domain) (ws : List ApertureWord) :
    (s.setApertureWords d ws).pool = s.pool := rfl
@[simp] theorem setApertureWords_apertures (d : Domain) (ws : List ApertureWord) :
    (s.setApertureWords d ws).apertures = s.apertures := rfl
@[simp] theorem setApertureWords_masters (d : Domain) (ws : List ApertureWord) :
    (s.setApertureWords d ws).masters = s.masters := rfl
@[simp] theorem setApertureWords_notices (d : Domain) (ws : List ApertureWord) :
    (s.setApertureWords d ws).notices = s.notices := rfl
@[simp] theorem setApertureWords_ports (d : Domain) (ws : List ApertureWord) :
    (s.setApertureWords d ws).ports = s.ports := rfl
@[simp] theorem setApertureWords_wires (d : Domain) (ws : List ApertureWord) :
    (s.setApertureWords d ws).wires = { s.wires with aperture := s.wires.aperture.set d ws } := rfl
@[simp] theorem setApertureWords_req (d : Domain) (ws : List ApertureWord) :
    (s.setApertureWords d ws).req = s.req := rfl
@[simp] theorem setApertureWords_prst (d : Domain) (ws : List ApertureWord) :
    (s.setApertureWords d ws).prst = s.prst := rfl
@[simp] theorem setApertureWords_clock (d : Domain) (ws : List ApertureWord) :
    (s.setApertureWords d ws).clock = s.clock := rfl
@[simp] theorem setApertureWords_freeCount (d : Domain) (ws : List ApertureWord) :
    (s.setApertureWords d ws).freeCount = s.freeCount := rfl
@[simp] theorem setApertureWords_pending (d : Domain) (ws : List ApertureWord) :
    (s.setApertureWords d ws).pending = s.pending := rfl

/-! ### setOfferBack -/

@[simp] theorem setOfferBack_channels (d : Domain) (e : EngineNo) (w : Option OfferWord) :
    (s.setOfferBack d e w).channels = s.channels := rfl
@[simp] theorem setOfferBack_tableClearing (d : Domain) (e : EngineNo) (w : Option OfferWord) :
    (s.setOfferBack d e w).tableClearing = s.tableClearing := rfl
@[simp] theorem setOfferBack_trigger (d : Domain) (e : EngineNo) (w : Option OfferWord) :
    (s.setOfferBack d e w).trigger = s.trigger := rfl
@[simp] theorem setOfferBack_lines (d : Domain) (e : EngineNo) (w : Option OfferWord) :
    (s.setOfferBack d e w).lines = s.lines := rfl
@[simp] theorem setOfferBack_engines (d : Domain) (e : EngineNo) (w : Option OfferWord) :
    (s.setOfferBack d e w).engines = s.engines := rfl
@[simp] theorem setOfferBack_pool (d : Domain) (e : EngineNo) (w : Option OfferWord) :
    (s.setOfferBack d e w).pool = s.pool := rfl
@[simp] theorem setOfferBack_apertures (d : Domain) (e : EngineNo) (w : Option OfferWord) :
    (s.setOfferBack d e w).apertures = s.apertures := rfl
@[simp] theorem setOfferBack_masters (d : Domain) (e : EngineNo) (w : Option OfferWord) :
    (s.setOfferBack d e w).masters = s.masters := rfl
@[simp] theorem setOfferBack_notices (d : Domain) (e : EngineNo) (w : Option OfferWord) :
    (s.setOfferBack d e w).notices = s.notices := rfl
@[simp] theorem setOfferBack_ports (d : Domain) (e : EngineNo) (w : Option OfferWord) :
    (s.setOfferBack d e w).ports = s.ports := rfl
@[simp] theorem setOfferBack_wires (d : Domain) (e : EngineNo) (w : Option OfferWord) :
    (s.setOfferBack d e w).wires = { s.wires with offersBack := s.wires.offersBack.set d ((s.wires.offersBack.get d).put e w) } := rfl
@[simp] theorem setOfferBack_req (d : Domain) (e : EngineNo) (w : Option OfferWord) :
    (s.setOfferBack d e w).req = s.req := rfl
@[simp] theorem setOfferBack_prst (d : Domain) (e : EngineNo) (w : Option OfferWord) :
    (s.setOfferBack d e w).prst = s.prst := rfl
@[simp] theorem setOfferBack_clock (d : Domain) (e : EngineNo) (w : Option OfferWord) :
    (s.setOfferBack d e w).clock = s.clock := rfl
@[simp] theorem setOfferBack_freeCount (d : Domain) (e : EngineNo) (w : Option OfferWord) :
    (s.setOfferBack d e w).freeCount = s.freeCount := rfl
@[simp] theorem setOfferBack_pending (d : Domain) (e : EngineNo) (w : Option OfferWord) :
    (s.setOfferBack d e w).pending = s.pending := rfl

/-! ### sendAnswer -/

@[simp] theorem sendAnswer_channels (p : Port) (a : Answer) :
    (s.sendAnswer p a).channels = s.channels := rfl
@[simp] theorem sendAnswer_tableClearing (p : Port) (a : Answer) :
    (s.sendAnswer p a).tableClearing = s.tableClearing := rfl
@[simp] theorem sendAnswer_trigger (p : Port) (a : Answer) :
    (s.sendAnswer p a).trigger = s.trigger := rfl
@[simp] theorem sendAnswer_lines (p : Port) (a : Answer) : (s.sendAnswer p a).lines = s.lines := rfl
@[simp] theorem sendAnswer_engines (p : Port) (a : Answer) :
    (s.sendAnswer p a).engines = s.engines := rfl
@[simp] theorem sendAnswer_pool (p : Port) (a : Answer) : (s.sendAnswer p a).pool = s.pool := rfl
@[simp] theorem sendAnswer_apertures (p : Port) (a : Answer) :
    (s.sendAnswer p a).apertures = s.apertures := rfl
@[simp] theorem sendAnswer_masters (p : Port) (a : Answer) :
    (s.sendAnswer p a).masters = s.masters := rfl
@[simp] theorem sendAnswer_notices (p : Port) (a : Answer) :
    (s.sendAnswer p a).notices = s.notices := rfl
@[simp] theorem sendAnswer_ports (p : Port) (a : Answer) : (s.sendAnswer p a).ports = s.ports := rfl
@[simp] theorem sendAnswer_wires (p : Port) (a : Answer) :
    (s.sendAnswer p a).wires = { s.wires with answers := s.wires.answers.set p (s.wires.answers.get p ++ [a]) } := rfl
@[simp] theorem sendAnswer_req (p : Port) (a : Answer) : (s.sendAnswer p a).req = s.req := rfl
@[simp] theorem sendAnswer_prst (p : Port) (a : Answer) : (s.sendAnswer p a).prst = s.prst := rfl
@[simp] theorem sendAnswer_clock (p : Port) (a : Answer) : (s.sendAnswer p a).clock = s.clock := rfl
@[simp] theorem sendAnswer_freeCount (p : Port) (a : Answer) :
    (s.sendAnswer p a).freeCount = s.freeCount := rfl
@[simp] theorem sendAnswer_pending (p : Port) (a : Answer) :
    (s.sendAnswer p a).pending = s.pending := rfl

/-! ### sendAck -/

@[simp] theorem sendAck_channels (w : LineWord) : (s.sendAck w).channels = s.channels := rfl
@[simp] theorem sendAck_tableClearing (w : LineWord) :
    (s.sendAck w).tableClearing = s.tableClearing := rfl
@[simp] theorem sendAck_trigger (w : LineWord) : (s.sendAck w).trigger = s.trigger := rfl
@[simp] theorem sendAck_lines (w : LineWord) : (s.sendAck w).lines = s.lines := rfl
@[simp] theorem sendAck_engines (w : LineWord) : (s.sendAck w).engines = s.engines := rfl
@[simp] theorem sendAck_pool (w : LineWord) : (s.sendAck w).pool = s.pool := rfl
@[simp] theorem sendAck_apertures (w : LineWord) : (s.sendAck w).apertures = s.apertures := rfl
@[simp] theorem sendAck_masters (w : LineWord) : (s.sendAck w).masters = s.masters := rfl
@[simp] theorem sendAck_notices (w : LineWord) : (s.sendAck w).notices = s.notices := rfl
@[simp] theorem sendAck_ports (w : LineWord) : (s.sendAck w).ports = s.ports := rfl
@[simp] theorem sendAck_wires (w : LineWord) :
    (s.sendAck w).wires = { s.wires with acks := s.wires.acks ++ [w] } := rfl
@[simp] theorem sendAck_req (w : LineWord) : (s.sendAck w).req = s.req := rfl
@[simp] theorem sendAck_prst (w : LineWord) : (s.sendAck w).prst = s.prst := rfl
@[simp] theorem sendAck_clock (w : LineWord) : (s.sendAck w).clock = s.clock := rfl
@[simp] theorem sendAck_freeCount (w : LineWord) : (s.sendAck w).freeCount = s.freeCount := rfl
@[simp] theorem sendAck_pending (w : LineWord) : (s.sendAck w).pending = s.pending := rfl

/-! ### sendReturn -/

@[simp] theorem sendReturn_channels (w : LineWord) : (s.sendReturn w).channels = s.channels := rfl
@[simp] theorem sendReturn_tableClearing (w : LineWord) :
    (s.sendReturn w).tableClearing = s.tableClearing := rfl
@[simp] theorem sendReturn_trigger (w : LineWord) : (s.sendReturn w).trigger = s.trigger := rfl
@[simp] theorem sendReturn_lines (w : LineWord) : (s.sendReturn w).lines = s.lines := rfl
@[simp] theorem sendReturn_engines (w : LineWord) : (s.sendReturn w).engines = s.engines := rfl
@[simp] theorem sendReturn_pool (w : LineWord) : (s.sendReturn w).pool = s.pool := rfl
@[simp] theorem sendReturn_apertures (w : LineWord) :
    (s.sendReturn w).apertures = s.apertures := rfl
@[simp] theorem sendReturn_masters (w : LineWord) : (s.sendReturn w).masters = s.masters := rfl
@[simp] theorem sendReturn_notices (w : LineWord) : (s.sendReturn w).notices = s.notices := rfl
@[simp] theorem sendReturn_ports (w : LineWord) : (s.sendReturn w).ports = s.ports := rfl
@[simp] theorem sendReturn_wires (w : LineWord) :
    (s.sendReturn w).wires = { s.wires with returns := s.wires.returns ++ [w] } := rfl
@[simp] theorem sendReturn_req (w : LineWord) : (s.sendReturn w).req = s.req := rfl
@[simp] theorem sendReturn_prst (w : LineWord) : (s.sendReturn w).prst = s.prst := rfl
@[simp] theorem sendReturn_clock (w : LineWord) : (s.sendReturn w).clock = s.clock := rfl
@[simp] theorem sendReturn_freeCount (w : LineWord) :
    (s.sendReturn w).freeCount = s.freeCount := rfl
@[simp] theorem sendReturn_pending (w : LineWord) : (s.sendReturn w).pending = s.pending := rfl

/-! ### sendCause -/

@[simp] theorem sendCause_channels (w : CauseWord) : (s.sendCause w).channels = s.channels := rfl
@[simp] theorem sendCause_tableClearing (w : CauseWord) :
    (s.sendCause w).tableClearing = s.tableClearing := rfl
@[simp] theorem sendCause_trigger (w : CauseWord) : (s.sendCause w).trigger = s.trigger := rfl
@[simp] theorem sendCause_lines (w : CauseWord) : (s.sendCause w).lines = s.lines := rfl
@[simp] theorem sendCause_engines (w : CauseWord) : (s.sendCause w).engines = s.engines := rfl
@[simp] theorem sendCause_pool (w : CauseWord) : (s.sendCause w).pool = s.pool := rfl
@[simp] theorem sendCause_apertures (w : CauseWord) : (s.sendCause w).apertures = s.apertures := rfl
@[simp] theorem sendCause_masters (w : CauseWord) : (s.sendCause w).masters = s.masters := rfl
@[simp] theorem sendCause_notices (w : CauseWord) : (s.sendCause w).notices = s.notices := rfl
@[simp] theorem sendCause_ports (w : CauseWord) : (s.sendCause w).ports = s.ports := rfl
@[simp] theorem sendCause_wires (w : CauseWord) :
    (s.sendCause w).wires = { s.wires with causes := s.wires.causes ++ [w] } := rfl
@[simp] theorem sendCause_req (w : CauseWord) : (s.sendCause w).req = s.req := rfl
@[simp] theorem sendCause_prst (w : CauseWord) : (s.sendCause w).prst = s.prst := rfl
@[simp] theorem sendCause_clock (w : CauseWord) : (s.sendCause w).clock = s.clock := rfl
@[simp] theorem sendCause_freeCount (w : CauseWord) : (s.sendCause w).freeCount = s.freeCount := rfl
@[simp] theorem sendCause_pending (w : CauseWord) : (s.sendCause w).pending = s.pending := rfl

/-! ### sendReport -/

@[simp] theorem sendReport_channels (w : EngineReport) :
    (s.sendReport w).channels = s.channels := rfl
@[simp] theorem sendReport_tableClearing (w : EngineReport) :
    (s.sendReport w).tableClearing = s.tableClearing := rfl
@[simp] theorem sendReport_trigger (w : EngineReport) : (s.sendReport w).trigger = s.trigger := rfl
@[simp] theorem sendReport_lines (w : EngineReport) : (s.sendReport w).lines = s.lines := rfl
@[simp] theorem sendReport_engines (w : EngineReport) : (s.sendReport w).engines = s.engines := rfl
@[simp] theorem sendReport_pool (w : EngineReport) : (s.sendReport w).pool = s.pool := rfl
@[simp] theorem sendReport_apertures (w : EngineReport) :
    (s.sendReport w).apertures = s.apertures := rfl
@[simp] theorem sendReport_masters (w : EngineReport) : (s.sendReport w).masters = s.masters := rfl
@[simp] theorem sendReport_notices (w : EngineReport) : (s.sendReport w).notices = s.notices := rfl
@[simp] theorem sendReport_ports (w : EngineReport) : (s.sendReport w).ports = s.ports := rfl
@[simp] theorem sendReport_wires (w : EngineReport) :
    (s.sendReport w).wires = { s.wires with reports := s.wires.reports ++ [w] } := rfl
@[simp] theorem sendReport_req (w : EngineReport) : (s.sendReport w).req = s.req := rfl
@[simp] theorem sendReport_prst (w : EngineReport) : (s.sendReport w).prst = s.prst := rfl
@[simp] theorem sendReport_clock (w : EngineReport) : (s.sendReport w).clock = s.clock := rfl
@[simp] theorem sendReport_freeCount (w : EngineReport) :
    (s.sendReport w).freeCount = s.freeCount := rfl
@[simp] theorem sendReport_pending (w : EngineReport) : (s.sendReport w).pending = s.pending := rfl

/-! ### sendLink -/

@[simp] theorem sendLink_channels (w : LinkWord) : (s.sendLink w).channels = s.channels := rfl
@[simp] theorem sendLink_tableClearing (w : LinkWord) :
    (s.sendLink w).tableClearing = s.tableClearing := rfl
@[simp] theorem sendLink_trigger (w : LinkWord) : (s.sendLink w).trigger = s.trigger := rfl
@[simp] theorem sendLink_lines (w : LinkWord) : (s.sendLink w).lines = s.lines := rfl
@[simp] theorem sendLink_engines (w : LinkWord) : (s.sendLink w).engines = s.engines := rfl
@[simp] theorem sendLink_pool (w : LinkWord) : (s.sendLink w).pool = s.pool := rfl
@[simp] theorem sendLink_apertures (w : LinkWord) : (s.sendLink w).apertures = s.apertures := rfl
@[simp] theorem sendLink_masters (w : LinkWord) : (s.sendLink w).masters = s.masters := rfl
@[simp] theorem sendLink_notices (w : LinkWord) : (s.sendLink w).notices = s.notices := rfl
@[simp] theorem sendLink_ports (w : LinkWord) : (s.sendLink w).ports = s.ports := rfl
@[simp] theorem sendLink_wires (w : LinkWord) :
    (s.sendLink w).wires = { s.wires with links := s.wires.links ++ [w] } := rfl
@[simp] theorem sendLink_req (w : LinkWord) : (s.sendLink w).req = s.req := rfl
@[simp] theorem sendLink_prst (w : LinkWord) : (s.sendLink w).prst = s.prst := rfl
@[simp] theorem sendLink_clock (w : LinkWord) : (s.sendLink w).clock = s.clock := rfl
@[simp] theorem sendLink_freeCount (w : LinkWord) : (s.sendLink w).freeCount = s.freeCount := rfl
@[simp] theorem sendLink_pending (w : LinkWord) : (s.sendLink w).pending = s.pending := rfl

/-! ### postSystem -/

@[simp] theorem postSystem_channels (p : Port) (n : SystemNotice) :
    (s.postSystem p n).channels = s.channels := rfl
@[simp] theorem postSystem_tableClearing (p : Port) (n : SystemNotice) :
    (s.postSystem p n).tableClearing = s.tableClearing := rfl
@[simp] theorem postSystem_trigger (p : Port) (n : SystemNotice) :
    (s.postSystem p n).trigger = s.trigger := rfl
@[simp] theorem postSystem_lines (p : Port) (n : SystemNotice) :
    (s.postSystem p n).lines = s.lines := rfl
@[simp] theorem postSystem_engines (p : Port) (n : SystemNotice) :
    (s.postSystem p n).engines = s.engines := rfl
@[simp] theorem postSystem_pool (p : Port) (n : SystemNotice) :
    (s.postSystem p n).pool = s.pool := rfl
@[simp] theorem postSystem_apertures (p : Port) (n : SystemNotice) :
    (s.postSystem p n).apertures = s.apertures := rfl
@[simp] theorem postSystem_masters (p : Port) (n : SystemNotice) :
    (s.postSystem p n).masters = s.masters := rfl
@[simp] theorem postSystem_notices (p : Port) (n : SystemNotice) :
    (s.postSystem p n).notices = s.notices := rfl
@[simp] theorem postSystem_ports (p : Port) (n : SystemNotice) :
    (s.postSystem p n).ports = s.ports := rfl
@[simp] theorem postSystem_wires (p : Port) (n : SystemNotice) :
    (s.postSystem p n).wires = { s.wires with postings := s.wires.postings.set p (s.wires.postings.get p ++ [n]) } := rfl
@[simp] theorem postSystem_req (p : Port) (n : SystemNotice) : (s.postSystem p n).req = s.req := rfl
@[simp] theorem postSystem_prst (p : Port) (n : SystemNotice) :
    (s.postSystem p n).prst = s.prst := rfl
@[simp] theorem postSystem_clock (p : Port) (n : SystemNotice) :
    (s.postSystem p n).clock = s.clock := rfl
@[simp] theorem postSystem_freeCount (p : Port) (n : SystemNotice) :
    (s.postSystem p n).freeCount = s.freeCount := rfl
@[simp] theorem postSystem_pending (p : Port) (n : SystemNotice) :
    (s.postSystem p n).pending = s.pending := rfl

/-! ### sendAperture -/

@[simp] theorem sendAperture_channels (d : Domain) (w : ApertureWord) :
    (s.sendAperture d w).channels = s.channels := rfl
@[simp] theorem sendAperture_tableClearing (d : Domain) (w : ApertureWord) :
    (s.sendAperture d w).tableClearing = s.tableClearing := rfl
@[simp] theorem sendAperture_trigger (d : Domain) (w : ApertureWord) :
    (s.sendAperture d w).trigger = s.trigger := rfl
@[simp] theorem sendAperture_lines (d : Domain) (w : ApertureWord) :
    (s.sendAperture d w).lines = s.lines := rfl
@[simp] theorem sendAperture_engines (d : Domain) (w : ApertureWord) :
    (s.sendAperture d w).engines = s.engines := rfl
@[simp] theorem sendAperture_pool (d : Domain) (w : ApertureWord) :
    (s.sendAperture d w).pool = s.pool := rfl
@[simp] theorem sendAperture_apertures (d : Domain) (w : ApertureWord) :
    (s.sendAperture d w).apertures = s.apertures := rfl
@[simp] theorem sendAperture_masters (d : Domain) (w : ApertureWord) :
    (s.sendAperture d w).masters = s.masters := rfl
@[simp] theorem sendAperture_notices (d : Domain) (w : ApertureWord) :
    (s.sendAperture d w).notices = s.notices := rfl
@[simp] theorem sendAperture_ports (d : Domain) (w : ApertureWord) :
    (s.sendAperture d w).ports = s.ports := rfl
@[simp] theorem sendAperture_wires (d : Domain) (w : ApertureWord) :
    (s.sendAperture d w).wires = { s.wires with aperture := s.wires.aperture.set d (s.wires.aperture.get d ++ [w]) } := rfl
@[simp] theorem sendAperture_req (d : Domain) (w : ApertureWord) :
    (s.sendAperture d w).req = s.req := rfl
@[simp] theorem sendAperture_prst (d : Domain) (w : ApertureWord) :
    (s.sendAperture d w).prst = s.prst := rfl
@[simp] theorem sendAperture_clock (d : Domain) (w : ApertureWord) :
    (s.sendAperture d w).clock = s.clock := rfl
@[simp] theorem sendAperture_freeCount (d : Domain) (w : ApertureWord) :
    (s.sendAperture d w).freeCount = s.freeCount := rfl
@[simp] theorem sendAperture_pending (d : Domain) (w : ApertureWord) :
    (s.sendAperture d w).pending = s.pending := rfl

/-! ### sendEngineWord -/

@[simp] theorem sendEngineWord_channels (d : Domain) (w : EngineWord) :
    (s.sendEngineWord d w).channels = s.channels := rfl
@[simp] theorem sendEngineWord_tableClearing (d : Domain) (w : EngineWord) :
    (s.sendEngineWord d w).tableClearing = s.tableClearing := rfl
@[simp] theorem sendEngineWord_trigger (d : Domain) (w : EngineWord) :
    (s.sendEngineWord d w).trigger = s.trigger := rfl
@[simp] theorem sendEngineWord_lines (d : Domain) (w : EngineWord) :
    (s.sendEngineWord d w).lines = s.lines := rfl
@[simp] theorem sendEngineWord_engines (d : Domain) (w : EngineWord) :
    (s.sendEngineWord d w).engines = s.engines := rfl
@[simp] theorem sendEngineWord_pool (d : Domain) (w : EngineWord) :
    (s.sendEngineWord d w).pool = s.pool := rfl
@[simp] theorem sendEngineWord_apertures (d : Domain) (w : EngineWord) :
    (s.sendEngineWord d w).apertures = s.apertures := rfl
@[simp] theorem sendEngineWord_masters (d : Domain) (w : EngineWord) :
    (s.sendEngineWord d w).masters = s.masters := rfl
@[simp] theorem sendEngineWord_notices (d : Domain) (w : EngineWord) :
    (s.sendEngineWord d w).notices = s.notices := rfl
@[simp] theorem sendEngineWord_ports (d : Domain) (w : EngineWord) :
    (s.sendEngineWord d w).ports = s.ports := rfl
@[simp] theorem sendEngineWord_wires (d : Domain) (w : EngineWord) :
    (s.sendEngineWord d w).wires = { s.wires with engineWords := s.wires.engineWords.set d (s.wires.engineWords.get d ++ [w]) } := rfl
@[simp] theorem sendEngineWord_req (d : Domain) (w : EngineWord) :
    (s.sendEngineWord d w).req = s.req := rfl
@[simp] theorem sendEngineWord_prst (d : Domain) (w : EngineWord) :
    (s.sendEngineWord d w).prst = s.prst := rfl
@[simp] theorem sendEngineWord_clock (d : Domain) (w : EngineWord) :
    (s.sendEngineWord d w).clock = s.clock := rfl
@[simp] theorem sendEngineWord_freeCount (d : Domain) (w : EngineWord) :
    (s.sendEngineWord d w).freeCount = s.freeCount := rfl
@[simp] theorem sendEngineWord_pending (d : Domain) (w : EngineWord) :
    (s.sendEngineWord d w).pending = s.pending := rfl

/-! ### sendField -/

@[simp] theorem sendField_channels (p : Port) (f : TeardownField) :
    (s.sendField p f).channels = s.channels := rfl
@[simp] theorem sendField_tableClearing (p : Port) (f : TeardownField) :
    (s.sendField p f).tableClearing = s.tableClearing := rfl
@[simp] theorem sendField_trigger (p : Port) (f : TeardownField) :
    (s.sendField p f).trigger = s.trigger := rfl
@[simp] theorem sendField_lines (p : Port) (f : TeardownField) :
    (s.sendField p f).lines = s.lines := rfl
@[simp] theorem sendField_engines (p : Port) (f : TeardownField) :
    (s.sendField p f).engines = s.engines := rfl
@[simp] theorem sendField_pool (p : Port) (f : TeardownField) :
    (s.sendField p f).pool = s.pool := rfl
@[simp] theorem sendField_apertures (p : Port) (f : TeardownField) :
    (s.sendField p f).apertures = s.apertures := rfl
@[simp] theorem sendField_masters (p : Port) (f : TeardownField) :
    (s.sendField p f).masters = s.masters := rfl
@[simp] theorem sendField_notices (p : Port) (f : TeardownField) :
    (s.sendField p f).notices = s.notices := rfl
@[simp] theorem sendField_ports (p : Port) (f : TeardownField) :
    (s.sendField p f).ports = s.ports := rfl
@[simp] theorem sendField_wires (p : Port) (f : TeardownField) :
    (s.sendField p f).wires = { s.wires with fields := s.wires.fields.set p (s.wires.fields.get p ++ [f]) } := rfl
@[simp] theorem sendField_req (p : Port) (f : TeardownField) : (s.sendField p f).req = s.req := rfl
@[simp] theorem sendField_prst (p : Port) (f : TeardownField) :
    (s.sendField p f).prst = s.prst := rfl
@[simp] theorem sendField_clock (p : Port) (f : TeardownField) :
    (s.sendField p f).clock = s.clock := rfl
@[simp] theorem sendField_freeCount (p : Port) (f : TeardownField) :
    (s.sendField p f).freeCount = s.freeCount := rfl
@[simp] theorem sendField_pending (p : Port) (f : TeardownField) :
    (s.sendField p f).pending = s.pending := rfl

end Sys2Proof.Machine
end

