-- ==== Sys2Proof/Laws/Frames.lean ====
section
/-! SUPPORT. The frame of each shared operation: the fields of the state that it never changes. A
simp set of these reduces any question about a field to the operations that write it. -/

namespace Sys2Proof.Machine

variable (s : State)

@[simp] theorem joinQueue_frame (ch : ChannelNo) :
    (s.joinQueue ch).channels = s.channels ∧ (s.joinQueue ch).tableClearing = s.tableClearing ∧
    (s.joinQueue ch).lines = s.lines ∧ (s.joinQueue ch).engines = s.engines ∧
    (s.joinQueue ch).pool = s.pool ∧ (s.joinQueue ch).apertures = s.apertures ∧
    (s.joinQueue ch).masters = s.masters ∧ (s.joinQueue ch).notices = s.notices ∧
    (s.joinQueue ch).ports = s.ports ∧ (s.joinQueue ch).wires = s.wires ∧
    (s.joinQueue ch).req = s.req ∧ (s.joinQueue ch).prst = s.prst ∧
    (s.joinQueue ch).clock = s.clock ∧ (s.joinQueue ch).freeCount = s.freeCount ∧
    (s.joinQueue ch).pending = s.pending := by
  unfold State.joinQueue
  try dsimp only
  repeat' split
  all_goals simp

@[simp] theorem leaveQueue_frame (ch : ChannelNo) :
    (s.leaveQueue ch).channels = s.channels ∧ (s.leaveQueue ch).tableClearing = s.tableClearing ∧
    (s.leaveQueue ch).lines = s.lines ∧ (s.leaveQueue ch).engines = s.engines ∧
    (s.leaveQueue ch).pool = s.pool ∧ (s.leaveQueue ch).apertures = s.apertures ∧
    (s.leaveQueue ch).masters = s.masters ∧ (s.leaveQueue ch).notices = s.notices ∧
    (s.leaveQueue ch).ports = s.ports ∧ (s.leaveQueue ch).wires = s.wires ∧
    (s.leaveQueue ch).req = s.req ∧ (s.leaveQueue ch).prst = s.prst ∧
    (s.leaveQueue ch).clock = s.clock ∧ (s.leaveQueue ch).freeCount = s.freeCount ∧
    (s.leaveQueue ch).pending = s.pending := by
  unfold State.leaveQueue
  try dsimp only
  repeat' split
  all_goals simp

@[simp] theorem writeChannel_frame (ch : ChannelNo) (c : Channel) :
    (s.writeChannel ch c).tableClearing = s.tableClearing ∧
    (s.writeChannel ch c).lines = s.lines ∧ (s.writeChannel ch c).engines = s.engines ∧
    (s.writeChannel ch c).pool = s.pool ∧ (s.writeChannel ch c).apertures = s.apertures ∧
    (s.writeChannel ch c).masters = s.masters ∧ (s.writeChannel ch c).notices = s.notices ∧
    (s.writeChannel ch c).ports = s.ports ∧ (s.writeChannel ch c).wires = s.wires ∧
    (s.writeChannel ch c).req = s.req ∧ (s.writeChannel ch c).prst = s.prst ∧
    (s.writeChannel ch c).clock = s.clock ∧ (s.writeChannel ch c).freeCount = s.freeCount ∧
    (s.writeChannel ch c).pending = s.pending := by
  unfold State.writeChannel
  try dsimp only
  repeat' split
  all_goals simp

@[simp] theorem takeTrigger_frame (l : LineNo) :
    (s.takeTrigger l).tableClearing = s.tableClearing ∧ (s.takeTrigger l).engines = s.engines ∧
    (s.takeTrigger l).pool = s.pool ∧ (s.takeTrigger l).apertures = s.apertures ∧
    (s.takeTrigger l).masters = s.masters ∧ (s.takeTrigger l).notices = s.notices ∧
    (s.takeTrigger l).ports = s.ports ∧ (s.takeTrigger l).wires = s.wires ∧
    (s.takeTrigger l).req = s.req ∧ (s.takeTrigger l).prst = s.prst ∧
    (s.takeTrigger l).clock = s.clock ∧ (s.takeTrigger l).freeCount = s.freeCount ∧
    (s.takeTrigger l).pending = s.pending := by
  unfold State.takeTrigger
  try dsimp only
  repeat' split
  all_goals simp

@[simp] theorem channelAble_frame (ch : ChannelNo) :
    (s.channelAble ch).tableClearing = s.tableClearing ∧ (s.channelAble ch).engines = s.engines ∧
    (s.channelAble ch).pool = s.pool ∧ (s.channelAble ch).apertures = s.apertures ∧
    (s.channelAble ch).masters = s.masters ∧ (s.channelAble ch).notices = s.notices ∧
    (s.channelAble ch).ports = s.ports ∧ (s.channelAble ch).wires = s.wires ∧
    (s.channelAble ch).req = s.req ∧ (s.channelAble ch).prst = s.prst ∧
    (s.channelAble ch).clock = s.clock ∧ (s.channelAble ch).freeCount = s.freeCount ∧
    (s.channelAble ch).pending = s.pending := by
  unfold State.channelAble
  try dsimp only
  repeat' split
  all_goals simp

@[simp] theorem unmap_frame (l : LineNo) :
    (s.unmap l).tableClearing = s.tableClearing ∧ (s.unmap l).engines = s.engines ∧
    (s.unmap l).pool = s.pool ∧ (s.unmap l).apertures = s.apertures ∧
    (s.unmap l).masters = s.masters ∧ (s.unmap l).notices = s.notices ∧
    (s.unmap l).ports = s.ports ∧ (s.unmap l).wires = s.wires ∧ (s.unmap l).req = s.req ∧
    (s.unmap l).prst = s.prst ∧ (s.unmap l).clock = s.clock ∧
    (s.unmap l).freeCount = s.freeCount ∧ (s.unmap l).pending = s.pending := by
  unfold State.unmap
  try dsimp only
  repeat' split
  all_goals simp

@[simp] theorem enterNext_frame (ch : ChannelNo) (n : AfterState) :
    (s.enterNext ch n).tableClearing = s.tableClearing ∧ (s.enterNext ch n).engines = s.engines ∧
    (s.enterNext ch n).pool = s.pool ∧ (s.enterNext ch n).apertures = s.apertures ∧
    (s.enterNext ch n).masters = s.masters ∧ (s.enterNext ch n).notices = s.notices ∧
    (s.enterNext ch n).ports = s.ports ∧ (s.enterNext ch n).wires = s.wires ∧
    (s.enterNext ch n).req = s.req ∧ (s.enterNext ch n).prst = s.prst ∧
    (s.enterNext ch n).clock = s.clock ∧ (s.enterNext ch n).freeCount = s.freeCount ∧
    (s.enterNext ch n).pending = s.pending := by
  unfold State.enterNext
  try dsimp only
  repeat' split
  all_goals simp

@[simp] theorem park_frame (ch : ChannelNo) (p : Port) (n : ChannelNotice) (a : AfterState) :
    (s.park ch p n a).tableClearing = s.tableClearing ∧ (s.park ch p n a).engines = s.engines ∧
    (s.park ch p n a).pool = s.pool ∧ (s.park ch p n a).apertures = s.apertures ∧
    (s.park ch p n a).masters = s.masters ∧ (s.park ch p n a).ports = s.ports ∧
    (s.park ch p n a).wires = s.wires ∧ (s.park ch p n a).req = s.req ∧
    (s.park ch p n a).prst = s.prst ∧ (s.park ch p n a).clock = s.clock ∧
    (s.park ch p n a).freeCount = s.freeCount ∧ (s.park ch p n a).pending = s.pending := by
  unfold State.park
  try dsimp only
  repeat' split
  all_goals simp

@[simp] theorem concludeUnit_frame (ch : ChannelNo) (n : Option ChannelNotice) (a : AfterState) :
    (s.concludeUnit ch n a).tableClearing = s.tableClearing ∧
    (s.concludeUnit ch n a).engines = s.engines ∧ (s.concludeUnit ch n a).pool = s.pool ∧
    (s.concludeUnit ch n a).apertures = s.apertures ∧
    (s.concludeUnit ch n a).masters = s.masters ∧ (s.concludeUnit ch n a).ports = s.ports ∧
    (s.concludeUnit ch n a).wires = s.wires ∧ (s.concludeUnit ch n a).req = s.req ∧
    (s.concludeUnit ch n a).prst = s.prst ∧ (s.concludeUnit ch n a).clock = s.clock ∧
    (s.concludeUnit ch n a).freeCount = s.freeCount ∧
    (s.concludeUnit ch n a).pending = s.pending := by
  unfold State.concludeUnit
  try dsimp only
  repeat' split
  all_goals simp

@[simp] theorem freeChannel_frame (ch : ChannelNo) :
    (s.freeChannel ch).tableClearing = s.tableClearing ∧ (s.freeChannel ch).engines = s.engines ∧
    (s.freeChannel ch).pool = s.pool ∧ (s.freeChannel ch).apertures = s.apertures ∧
    (s.freeChannel ch).masters = s.masters ∧ (s.freeChannel ch).ports = s.ports ∧
    (s.freeChannel ch).wires = s.wires ∧ (s.freeChannel ch).req = s.req ∧
    (s.freeChannel ch).prst = s.prst ∧ (s.freeChannel ch).clock = s.clock ∧
    (s.freeChannel ch).freeCount = s.freeCount ∧ (s.freeChannel ch).pending = s.pending := by
  unfold State.freeChannel
  try dsimp only
  repeat' split
  all_goals simp

@[simp] theorem reportChannels_frame (p : Port) :
    (s.reportChannels p).channels = s.channels ∧ (s.reportChannels p).trigger = s.trigger ∧
    (s.reportChannels p).lines = s.lines ∧ (s.reportChannels p).engines = s.engines ∧
    (s.reportChannels p).pool = s.pool ∧ (s.reportChannels p).apertures = s.apertures ∧
    (s.reportChannels p).masters = s.masters ∧ (s.reportChannels p).notices = s.notices ∧
    (s.reportChannels p).ports = s.ports ∧ (s.reportChannels p).req = s.req ∧
    (s.reportChannels p).prst = s.prst ∧ (s.reportChannels p).clock = s.clock ∧
    (s.reportChannels p).freeCount = s.freeCount ∧ (s.reportChannels p).pending = s.pending := by
  unfold State.reportChannels
  try dsimp only
  repeat' split
  all_goals simp

@[simp] theorem giveLine_frame (e : EngineNo) (n : StagingLine) :
    (s.giveLine e n).channels = s.channels ∧ (s.giveLine e n).tableClearing = s.tableClearing ∧
    (s.giveLine e n).trigger = s.trigger ∧ (s.giveLine e n).lines = s.lines ∧
    (s.giveLine e n).apertures = s.apertures ∧ (s.giveLine e n).masters = s.masters ∧
    (s.giveLine e n).notices = s.notices ∧ (s.giveLine e n).ports = s.ports ∧
    (s.giveLine e n).wires = s.wires ∧ (s.giveLine e n).req = s.req ∧
    (s.giveLine e n).prst = s.prst ∧ (s.giveLine e n).clock = s.clock ∧
    (s.giveLine e n).freeCount = s.freeCount ∧ (s.giveLine e n).pending = s.pending := by
  unfold State.giveLine
  try dsimp only
  repeat' split
  all_goals simp

@[simp] theorem requestLine_frame (e : EngineNo) :
    (s.requestLine e).channels = s.channels ∧ (s.requestLine e).tableClearing = s.tableClearing ∧
    (s.requestLine e).trigger = s.trigger ∧ (s.requestLine e).lines = s.lines ∧
    (s.requestLine e).apertures = s.apertures ∧ (s.requestLine e).masters = s.masters ∧
    (s.requestLine e).notices = s.notices ∧ (s.requestLine e).ports = s.ports ∧
    (s.requestLine e).wires = s.wires ∧ (s.requestLine e).req = s.req ∧
    (s.requestLine e).prst = s.prst ∧ (s.requestLine e).clock = s.clock ∧
    (s.requestLine e).freeCount = s.freeCount ∧ (s.requestLine e).pending = s.pending := by
  unfold State.requestLine
  try dsimp only
  repeat' split
  all_goals simp

@[simp] theorem handOver_frame (n : StagingLine) :
    (s.handOver n).channels = s.channels ∧ (s.handOver n).tableClearing = s.tableClearing ∧
    (s.handOver n).trigger = s.trigger ∧ (s.handOver n).lines = s.lines ∧
    (s.handOver n).apertures = s.apertures ∧ (s.handOver n).masters = s.masters ∧
    (s.handOver n).notices = s.notices ∧ (s.handOver n).ports = s.ports ∧
    (s.handOver n).wires = s.wires ∧ (s.handOver n).req = s.req ∧ (s.handOver n).prst = s.prst ∧
    (s.handOver n).clock = s.clock ∧ (s.handOver n).freeCount = s.freeCount ∧
    (s.handOver n).pending = s.pending := by
  unfold State.handOver
  try dsimp only
  repeat' split
  all_goals simp

@[simp] theorem freeLine_frame (e : EngineNo) (h : HeldLine) :
    (s.freeLine e h).channels = s.channels ∧ (s.freeLine e h).tableClearing = s.tableClearing ∧
    (s.freeLine e h).trigger = s.trigger ∧ (s.freeLine e h).lines = s.lines ∧
    (s.freeLine e h).apertures = s.apertures ∧ (s.freeLine e h).masters = s.masters ∧
    (s.freeLine e h).notices = s.notices ∧ (s.freeLine e h).ports = s.ports ∧
    (s.freeLine e h).wires = s.wires ∧ (s.freeLine e h).req = s.req ∧
    (s.freeLine e h).prst = s.prst ∧ (s.freeLine e h).clock = s.clock ∧
    (s.freeLine e h).freeCount = s.freeCount ∧ (s.freeLine e h).pending = s.pending := by
  unfold State.freeLine
  try dsimp only
  repeat' split
  all_goals simp

@[simp] theorem freeLines_frame (e : EngineNo) (hs : List HeldLine) :
    (s.freeLines e hs).channels = s.channels ∧
    (s.freeLines e hs).tableClearing = s.tableClearing ∧ (s.freeLines e hs).trigger = s.trigger ∧
    (s.freeLines e hs).lines = s.lines ∧ (s.freeLines e hs).apertures = s.apertures ∧
    (s.freeLines e hs).masters = s.masters ∧ (s.freeLines e hs).notices = s.notices ∧
    (s.freeLines e hs).ports = s.ports ∧ (s.freeLines e hs).wires = s.wires ∧
    (s.freeLines e hs).req = s.req ∧ (s.freeLines e hs).prst = s.prst ∧
    (s.freeLines e hs).clock = s.clock ∧ (s.freeLines e hs).freeCount = s.freeCount ∧
    (s.freeLines e hs).pending = s.pending := by
  unfold State.freeLines
  induction hs generalizing s with
  | nil => simp
  | cons h hs ih =>
    have := ih (s.freeLine e h)
    simpa using this

@[simp] theorem takeUpRequest_frame (e : EngineNo) (b : Bool) :
    (s.takeUpRequest e b).channels = s.channels ∧
    (s.takeUpRequest e b).tableClearing = s.tableClearing ∧
    (s.takeUpRequest e b).trigger = s.trigger ∧ (s.takeUpRequest e b).lines = s.lines ∧
    (s.takeUpRequest e b).apertures = s.apertures ∧ (s.takeUpRequest e b).masters = s.masters ∧
    (s.takeUpRequest e b).notices = s.notices ∧ (s.takeUpRequest e b).ports = s.ports ∧
    (s.takeUpRequest e b).wires = s.wires ∧ (s.takeUpRequest e b).req = s.req ∧
    (s.takeUpRequest e b).prst = s.prst ∧ (s.takeUpRequest e b).clock = s.clock ∧
    (s.takeUpRequest e b).freeCount = s.freeCount ∧ (s.takeUpRequest e b).pending = s.pending := by
  unfold State.takeUpRequest
  try dsimp only
  repeat' split
  all_goals simp

@[simp] theorem takeConfirmed_frame (e : EngineNo) :
    (s.takeConfirmed e).channels = s.channels ∧
    (s.takeConfirmed e).tableClearing = s.tableClearing ∧
    (s.takeConfirmed e).trigger = s.trigger ∧ (s.takeConfirmed e).lines = s.lines ∧
    (s.takeConfirmed e).apertures = s.apertures ∧ (s.takeConfirmed e).masters = s.masters ∧
    (s.takeConfirmed e).notices = s.notices ∧ (s.takeConfirmed e).ports = s.ports ∧
    (s.takeConfirmed e).wires = s.wires ∧ (s.takeConfirmed e).req = s.req ∧
    (s.takeConfirmed e).prst = s.prst ∧ (s.takeConfirmed e).clock = s.clock ∧
    (s.takeConfirmed e).freeCount = s.freeCount ∧ (s.takeConfirmed e).pending = s.pending := by
  unfold State.takeConfirmed
  try dsimp only
  repeat' split
  all_goals simp

@[simp] theorem dropRequest_frame (e : EngineNo) :
    (s.dropRequest e).channels = s.channels ∧ (s.dropRequest e).tableClearing = s.tableClearing ∧
    (s.dropRequest e).trigger = s.trigger ∧ (s.dropRequest e).lines = s.lines ∧
    (s.dropRequest e).engines = s.engines ∧ (s.dropRequest e).apertures = s.apertures ∧
    (s.dropRequest e).masters = s.masters ∧ (s.dropRequest e).notices = s.notices ∧
    (s.dropRequest e).ports = s.ports ∧ (s.dropRequest e).wires = s.wires ∧
    (s.dropRequest e).req = s.req ∧ (s.dropRequest e).prst = s.prst ∧
    (s.dropRequest e).clock = s.clock ∧ (s.dropRequest e).freeCount = s.freeCount ∧
    (s.dropRequest e).pending = s.pending := by
  unfold State.dropRequest
  try dsimp only
  repeat' split
  all_goals simp

@[simp] theorem releaseLines_frame (e : EngineNo) :
    (s.releaseLines e).channels = s.channels ∧
    (s.releaseLines e).tableClearing = s.tableClearing ∧ (s.releaseLines e).trigger = s.trigger ∧
    (s.releaseLines e).lines = s.lines ∧ (s.releaseLines e).apertures = s.apertures ∧
    (s.releaseLines e).masters = s.masters ∧ (s.releaseLines e).notices = s.notices ∧
    (s.releaseLines e).ports = s.ports ∧ (s.releaseLines e).wires = s.wires ∧
    (s.releaseLines e).req = s.req ∧ (s.releaseLines e).prst = s.prst ∧
    (s.releaseLines e).clock = s.clock ∧ (s.releaseLines e).freeCount = s.freeCount ∧
    (s.releaseLines e).pending = s.pending := by
  unfold State.releaseLines
  try dsimp only
  repeat' split
  all_goals simp

@[simp] theorem storeRead_frame (e : EngineNo) (w : Work) (t : Txn) (b : List Byte) :
    (s.storeRead e w t b).channels = s.channels ∧
    (s.storeRead e w t b).tableClearing = s.tableClearing ∧
    (s.storeRead e w t b).trigger = s.trigger ∧ (s.storeRead e w t b).lines = s.lines ∧
    (s.storeRead e w t b).engines = s.engines ∧ (s.storeRead e w t b).apertures = s.apertures ∧
    (s.storeRead e w t b).masters = s.masters ∧ (s.storeRead e w t b).notices = s.notices ∧
    (s.storeRead e w t b).ports = s.ports ∧ (s.storeRead e w t b).wires = s.wires ∧
    (s.storeRead e w t b).req = s.req ∧ (s.storeRead e w t b).prst = s.prst ∧
    (s.storeRead e w t b).clock = s.clock ∧ (s.storeRead e w t b).freeCount = s.freeCount ∧
    (s.storeRead e w t b).pending = s.pending := by
  unfold State.storeRead
  try dsimp only
  repeat' split
  all_goals simp

@[simp] theorem tryStopEnd_frame (e : EngineNo) :
    (s.tryStopEnd e).channels = s.channels ∧ (s.tryStopEnd e).tableClearing = s.tableClearing ∧
    (s.tryStopEnd e).trigger = s.trigger ∧ (s.tryStopEnd e).lines = s.lines ∧
    (s.tryStopEnd e).apertures = s.apertures ∧ (s.tryStopEnd e).masters = s.masters ∧
    (s.tryStopEnd e).notices = s.notices ∧ (s.tryStopEnd e).ports = s.ports ∧
    (s.tryStopEnd e).req = s.req ∧ (s.tryStopEnd e).prst = s.prst ∧
    (s.tryStopEnd e).clock = s.clock ∧ (s.tryStopEnd e).freeCount = s.freeCount ∧
    (s.tryStopEnd e).pending = s.pending := by
  unfold State.tryStopEnd
  try dsimp only
  repeat' split
  all_goals simp

@[simp] theorem beginStop_frame (e : EngineNo) (w : Work) (c : StopCause) :
    (s.beginStop e w c).channels = s.channels ∧
    (s.beginStop e w c).tableClearing = s.tableClearing ∧
    (s.beginStop e w c).trigger = s.trigger ∧ (s.beginStop e w c).lines = s.lines ∧
    (s.beginStop e w c).apertures = s.apertures ∧ (s.beginStop e w c).masters = s.masters ∧
    (s.beginStop e w c).notices = s.notices ∧ (s.beginStop e w c).ports = s.ports ∧
    (s.beginStop e w c).req = s.req ∧ (s.beginStop e w c).prst = s.prst ∧
    (s.beginStop e w c).clock = s.clock ∧ (s.beginStop e w c).freeCount = s.freeCount ∧
    (s.beginStop e w c).pending = s.pending := by
  unfold State.beginStop
  try dsimp only
  repeat' split
  all_goals simp

@[simp] theorem takeFault_frame (e : EngineNo) (w : Work) (r : FaultRecord) :
    (s.takeFault e w r).channels = s.channels ∧
    (s.takeFault e w r).tableClearing = s.tableClearing ∧
    (s.takeFault e w r).trigger = s.trigger ∧ (s.takeFault e w r).lines = s.lines ∧
    (s.takeFault e w r).apertures = s.apertures ∧ (s.takeFault e w r).masters = s.masters ∧
    (s.takeFault e w r).notices = s.notices ∧ (s.takeFault e w r).ports = s.ports ∧
    (s.takeFault e w r).req = s.req ∧ (s.takeFault e w r).prst = s.prst ∧
    (s.takeFault e w r).clock = s.clock ∧ (s.takeFault e w r).freeCount = s.freeCount ∧
    (s.takeFault e w r).pending = s.pending := by
  unfold State.takeFault
  try dsimp only
  repeat' split
  all_goals simp

@[simp] theorem endUnit_frame (e : EngineNo) (w : Work) :
    (s.endUnit e w).channels = s.channels ∧ (s.endUnit e w).tableClearing = s.tableClearing ∧
    (s.endUnit e w).trigger = s.trigger ∧ (s.endUnit e w).lines = s.lines ∧
    (s.endUnit e w).apertures = s.apertures ∧ (s.endUnit e w).masters = s.masters ∧
    (s.endUnit e w).notices = s.notices ∧ (s.endUnit e w).ports = s.ports ∧
    (s.endUnit e w).req = s.req ∧ (s.endUnit e w).prst = s.prst ∧
    (s.endUnit e w).clock = s.clock ∧ (s.endUnit e w).freeCount = s.freeCount ∧
    (s.endUnit e w).pending = s.pending := by
  unfold State.endUnit
  try dsimp only
  repeat' split
  all_goals simp

@[simp] theorem closeAperture_frame (d : Domain) (i : ApertureNo) :
    (s.closeAperture d i).channels = s.channels ∧
    (s.closeAperture d i).tableClearing = s.tableClearing ∧
    (s.closeAperture d i).trigger = s.trigger ∧ (s.closeAperture d i).lines = s.lines ∧
    (s.closeAperture d i).engines = s.engines ∧ (s.closeAperture d i).pool = s.pool ∧
    (s.closeAperture d i).masters = s.masters ∧ (s.closeAperture d i).notices = s.notices ∧
    (s.closeAperture d i).ports = s.ports ∧ (s.closeAperture d i).req = s.req ∧
    (s.closeAperture d i).prst = s.prst ∧ (s.closeAperture d i).clock = s.clock ∧
    (s.closeAperture d i).freeCount = s.freeCount ∧ (s.closeAperture d i).pending = s.pending := by
  unfold State.closeAperture
  try dsimp only
  repeat' split
  all_goals simp

@[simp] theorem reportApertures_frame (d : Domain) :
    (s.reportApertures d).channels = s.channels ∧
    (s.reportApertures d).tableClearing = s.tableClearing ∧
    (s.reportApertures d).trigger = s.trigger ∧ (s.reportApertures d).lines = s.lines ∧
    (s.reportApertures d).engines = s.engines ∧ (s.reportApertures d).pool = s.pool ∧
    (s.reportApertures d).masters = s.masters ∧ (s.reportApertures d).notices = s.notices ∧
    (s.reportApertures d).ports = s.ports ∧ (s.reportApertures d).req = s.req ∧
    (s.reportApertures d).prst = s.prst ∧ (s.reportApertures d).clock = s.clock ∧
    (s.reportApertures d).freeCount = s.freeCount ∧ (s.reportApertures d).pending = s.pending := by
  unfold State.reportApertures
  try dsimp only
  repeat' split
  all_goals simp

@[simp] theorem revoke_frame (d : Domain) (i : ApertureNo) :
    (s.revoke d i).channels = s.channels ∧ (s.revoke d i).tableClearing = s.tableClearing ∧
    (s.revoke d i).trigger = s.trigger ∧ (s.revoke d i).lines = s.lines ∧
    (s.revoke d i).engines = s.engines ∧ (s.revoke d i).pool = s.pool ∧
    (s.revoke d i).masters = s.masters ∧ (s.revoke d i).notices = s.notices ∧
    (s.revoke d i).ports = s.ports ∧ (s.revoke d i).req = s.req ∧ (s.revoke d i).prst = s.prst ∧
    (s.revoke d i).clock = s.clock ∧ (s.revoke d i).freeCount = s.freeCount ∧
    (s.revoke d i).pending = s.pending := by
  unfold State.revoke
  try dsimp only
  repeat' split
  all_goals simp

@[simp] theorem writeAnswer_frame (p : Port) (a : Answer) :
    (s.writeAnswer p a).channels = s.channels ∧
    (s.writeAnswer p a).tableClearing = s.tableClearing ∧
    (s.writeAnswer p a).trigger = s.trigger ∧ (s.writeAnswer p a).lines = s.lines ∧
    (s.writeAnswer p a).engines = s.engines ∧ (s.writeAnswer p a).pool = s.pool ∧
    (s.writeAnswer p a).apertures = s.apertures ∧ (s.writeAnswer p a).masters = s.masters ∧
    (s.writeAnswer p a).notices = s.notices ∧ (s.writeAnswer p a).wires = s.wires ∧
    (s.writeAnswer p a).req = s.req ∧ (s.writeAnswer p a).prst = s.prst ∧
    (s.writeAnswer p a).clock = s.clock ∧ (s.writeAnswer p a).freeCount = s.freeCount ∧
    (s.writeAnswer p a).pending = s.pending := by
  unfold State.writeAnswer
  try dsimp only
  repeat' split
  all_goals simp

@[simp] theorem startTeardown_frame (p : Port) (c : TeardownCause) :
    (s.startTeardown p c).channels = s.channels ∧
    (s.startTeardown p c).tableClearing = s.tableClearing ∧
    (s.startTeardown p c).trigger = s.trigger ∧ (s.startTeardown p c).lines = s.lines ∧
    (s.startTeardown p c).engines = s.engines ∧ (s.startTeardown p c).pool = s.pool ∧
    (s.startTeardown p c).apertures = s.apertures ∧ (s.startTeardown p c).masters = s.masters ∧
    (s.startTeardown p c).notices = s.notices ∧ (s.startTeardown p c).req = s.req ∧
    (s.startTeardown p c).prst = s.prst ∧ (s.startTeardown p c).clock = s.clock ∧
    (s.startTeardown p c).freeCount = s.freeCount ∧ (s.startTeardown p c).pending = s.pending := by
  unfold State.startTeardown
  try dsimp only
  repeat' split
  all_goals simp

@[simp] theorem abortReady_frame (ch : ChannelNo) :
    (s.abortReady ch).tableClearing = s.tableClearing ∧ (s.abortReady ch).engines = s.engines ∧
    (s.abortReady ch).pool = s.pool ∧ (s.abortReady ch).apertures = s.apertures ∧
    (s.abortReady ch).masters = s.masters ∧ (s.abortReady ch).notices = s.notices ∧
    (s.abortReady ch).ports = s.ports ∧ (s.abortReady ch).wires = s.wires ∧
    (s.abortReady ch).req = s.req ∧ (s.abortReady ch).prst = s.prst ∧
    (s.abortReady ch).clock = s.clock ∧ (s.abortReady ch).freeCount = s.freeCount ∧
    (s.abortReady ch).pending = s.pending := by
  unfold State.abortReady
  try dsimp only
  repeat' split
  all_goals simp

@[simp] theorem acknowledge_frame (ch : ChannelNo) :
    (s.acknowledge ch).channels = s.channels ∧
    (s.acknowledge ch).tableClearing = s.tableClearing ∧ (s.acknowledge ch).trigger = s.trigger ∧
    (s.acknowledge ch).lines = s.lines ∧ (s.acknowledge ch).engines = s.engines ∧
    (s.acknowledge ch).pool = s.pool ∧ (s.acknowledge ch).apertures = s.apertures ∧
    (s.acknowledge ch).masters = s.masters ∧ (s.acknowledge ch).notices = s.notices ∧
    (s.acknowledge ch).ports = s.ports ∧ (s.acknowledge ch).req = s.req ∧
    (s.acknowledge ch).prst = s.prst ∧ (s.acknowledge ch).clock = s.clock ∧
    (s.acknowledge ch).freeCount = s.freeCount ∧ (s.acknowledge ch).pending = s.pending := by
  unfold State.acknowledge
  try dsimp only
  repeat' split
  all_goals simp

@[simp] theorem returnLine_frame (ch : ChannelNo) :
    (s.returnLine ch).channels = s.channels ∧ (s.returnLine ch).tableClearing = s.tableClearing ∧
    (s.returnLine ch).trigger = s.trigger ∧ (s.returnLine ch).lines = s.lines ∧
    (s.returnLine ch).engines = s.engines ∧ (s.returnLine ch).pool = s.pool ∧
    (s.returnLine ch).apertures = s.apertures ∧ (s.returnLine ch).masters = s.masters ∧
    (s.returnLine ch).notices = s.notices ∧ (s.returnLine ch).ports = s.ports ∧
    (s.returnLine ch).req = s.req ∧ (s.returnLine ch).prst = s.prst ∧
    (s.returnLine ch).clock = s.clock ∧ (s.returnLine ch).freeCount = s.freeCount ∧
    (s.returnLine ch).pending = s.pending := by
  unfold State.returnLine
  try dsimp only
  repeat' split
  all_goals simp

@[simp] theorem fireLink_frame (ch : ChannelNo) (p : Program) (n : Nat) :
    (s.fireLink ch p n).channels = s.channels ∧
    (s.fireLink ch p n).tableClearing = s.tableClearing ∧
    (s.fireLink ch p n).trigger = s.trigger ∧ (s.fireLink ch p n).lines = s.lines ∧
    (s.fireLink ch p n).engines = s.engines ∧ (s.fireLink ch p n).pool = s.pool ∧
    (s.fireLink ch p n).apertures = s.apertures ∧ (s.fireLink ch p n).masters = s.masters ∧
    (s.fireLink ch p n).notices = s.notices ∧ (s.fireLink ch p n).ports = s.ports ∧
    (s.fireLink ch p n).req = s.req ∧ (s.fireLink ch p n).prst = s.prst ∧
    (s.fireLink ch p n).clock = s.clock ∧ (s.fireLink ch p n).freeCount = s.freeCount ∧
    (s.fireLink ch p n).pending = s.pending := by
  unfold State.fireLink
  try dsimp only
  repeat' split
  all_goals simp

@[simp] theorem unitEnd_frame (ch : ChannelNo) (r : Progress) (o : Origin) :
    (s.unitEnd ch r o).tableClearing = s.tableClearing ∧ (s.unitEnd ch r o).engines = s.engines ∧
    (s.unitEnd ch r o).pool = s.pool ∧ (s.unitEnd ch r o).apertures = s.apertures ∧
    (s.unitEnd ch r o).masters = s.masters ∧ (s.unitEnd ch r o).ports = s.ports ∧
    (s.unitEnd ch r o).req = s.req ∧ (s.unitEnd ch r o).prst = s.prst ∧
    (s.unitEnd ch r o).clock = s.clock ∧ (s.unitEnd ch r o).freeCount = s.freeCount ∧
    (s.unitEnd ch r o).pending = s.pending := by
  unfold State.unitEnd
  try dsimp only
  repeat' split
  all_goals simp

@[simp] theorem freeStopped_frame (ch : ChannelNo) :
    (s.freeStopped ch).engines = s.engines ∧ (s.freeStopped ch).pool = s.pool ∧
    (s.freeStopped ch).apertures = s.apertures ∧ (s.freeStopped ch).masters = s.masters ∧
    (s.freeStopped ch).ports = s.ports ∧ (s.freeStopped ch).req = s.req ∧
    (s.freeStopped ch).prst = s.prst ∧ (s.freeStopped ch).clock = s.clock ∧
    (s.freeStopped ch).freeCount = s.freeCount ∧ (s.freeStopped ch).pending = s.pending := by
  unfold State.freeStopped
  try dsimp only
  repeat' split
  all_goals simp

@[simp] theorem stopUnit_frame (ch : ChannelNo) (r : Progress) (c : StopCause) :
    (s.stopUnit ch r c).engines = s.engines ∧ (s.stopUnit ch r c).pool = s.pool ∧
    (s.stopUnit ch r c).apertures = s.apertures ∧ (s.stopUnit ch r c).masters = s.masters ∧
    (s.stopUnit ch r c).ports = s.ports ∧ (s.stopUnit ch r c).req = s.req ∧
    (s.stopUnit ch r c).prst = s.prst ∧ (s.stopUnit ch r c).clock = s.clock ∧
    (s.stopUnit ch r c).freeCount = s.freeCount ∧ (s.stopUnit ch r c).pending = s.pending := by
  unfold State.stopUnit
  try dsimp only
  repeat' split
  all_goals simp

@[simp] theorem deliverLink_frame (w : LinkWord) :
    (s.deliverLink w).tableClearing = s.tableClearing ∧ (s.deliverLink w).lines = s.lines ∧
    (s.deliverLink w).engines = s.engines ∧ (s.deliverLink w).pool = s.pool ∧
    (s.deliverLink w).apertures = s.apertures ∧ (s.deliverLink w).masters = s.masters ∧
    (s.deliverLink w).notices = s.notices ∧ (s.deliverLink w).ports = s.ports ∧
    (s.deliverLink w).req = s.req ∧ (s.deliverLink w).prst = s.prst ∧
    (s.deliverLink w).clock = s.clock ∧ (s.deliverLink w).freeCount = s.freeCount ∧
    (s.deliverLink w).pending = s.pending := by
  unfold State.deliverLink
  try dsimp only
  repeat' split
  all_goals simp

@[simp] theorem tearDownChannel_frame (p : Port) (ch : ChannelNo) :
    (s.tearDownChannel p ch).tableClearing = s.tableClearing ∧
    (s.tearDownChannel p ch).engines = s.engines ∧ (s.tearDownChannel p ch).pool = s.pool ∧
    (s.tearDownChannel p ch).apertures = s.apertures ∧
    (s.tearDownChannel p ch).masters = s.masters ∧ (s.tearDownChannel p ch).ports = s.ports ∧
    (s.tearDownChannel p ch).req = s.req ∧ (s.tearDownChannel p ch).prst = s.prst ∧
    (s.tearDownChannel p ch).clock = s.clock ∧ (s.tearDownChannel p ch).freeCount = s.freeCount ∧
    (s.tearDownChannel p ch).pending = s.pending := by
  unfold State.tearDownChannel
  try dsimp only
  repeat' split
  all_goals simp

@[simp] theorem serveLine_frame (c : Channel) :
    (s.serveLine c).channels = s.channels ∧ (s.serveLine c).tableClearing = s.tableClearing ∧
    (s.serveLine c).trigger = s.trigger ∧ (s.serveLine c).engines = s.engines ∧
    (s.serveLine c).pool = s.pool ∧ (s.serveLine c).apertures = s.apertures ∧
    (s.serveLine c).masters = s.masters ∧ (s.serveLine c).notices = s.notices ∧
    (s.serveLine c).ports = s.ports ∧ (s.serveLine c).wires = s.wires ∧
    (s.serveLine c).req = s.req ∧ (s.serveLine c).prst = s.prst ∧
    (s.serveLine c).clock = s.clock ∧ (s.serveLine c).freeCount = s.freeCount ∧
    (s.serveLine c).pending = s.pending := by
  unfold State.serveLine
  try dsimp only
  repeat' split
  all_goals simp

@[simp] theorem startUnit_frame (e : EngineNo) (w : Work) :
    (s.startUnit e w).channels = s.channels ∧ (s.startUnit e w).tableClearing = s.tableClearing ∧
    (s.startUnit e w).trigger = s.trigger ∧ (s.startUnit e w).lines = s.lines ∧
    (s.startUnit e w).apertures = s.apertures ∧ (s.startUnit e w).masters = s.masters ∧
    (s.startUnit e w).notices = s.notices ∧ (s.startUnit e w).ports = s.ports ∧
    (s.startUnit e w).req = s.req ∧ (s.startUnit e w).prst = s.prst ∧
    (s.startUnit e w).clock = s.clock ∧ (s.startUnit e w).freeCount = s.freeCount ∧
    (s.startUnit e w).pending = s.pending := by
  unfold State.startUnit
  try dsimp only
  repeat' split
  all_goals simp

@[simp] theorem dispatchHead_frame (e : EngineNo) (k : SchedClass) (ch : ChannelNo) (q : List ChannelNo) :
    (s.dispatchHead e k ch q).tableClearing = s.tableClearing ∧
    (s.dispatchHead e k ch q).apertures = s.apertures ∧
    (s.dispatchHead e k ch q).masters = s.masters ∧
    (s.dispatchHead e k ch q).notices = s.notices ∧ (s.dispatchHead e k ch q).ports = s.ports ∧
    (s.dispatchHead e k ch q).req = s.req ∧ (s.dispatchHead e k ch q).prst = s.prst ∧
    (s.dispatchHead e k ch q).clock = s.clock ∧
    (s.dispatchHead e k ch q).freeCount = s.freeCount ∧
    (s.dispatchHead e k ch q).pending = s.pending := by
  unfold State.dispatchHead
  try dsimp only
  repeat' split
  all_goals simp

@[simp] theorem acknowledgeLine_frame (w : LineWord) :
    (s.acknowledgeLine w).channels = s.channels ∧
    (s.acknowledgeLine w).tableClearing = s.tableClearing ∧
    (s.acknowledgeLine w).trigger = s.trigger ∧ (s.acknowledgeLine w).engines = s.engines ∧
    (s.acknowledgeLine w).pool = s.pool ∧ (s.acknowledgeLine w).apertures = s.apertures ∧
    (s.acknowledgeLine w).masters = s.masters ∧ (s.acknowledgeLine w).notices = s.notices ∧
    (s.acknowledgeLine w).ports = s.ports ∧ (s.acknowledgeLine w).wires = s.wires ∧
    (s.acknowledgeLine w).req = s.req ∧ (s.acknowledgeLine w).prst = s.prst ∧
    (s.acknowledgeLine w).clock = s.clock ∧ (s.acknowledgeLine w).freeCount = s.freeCount ∧
    (s.acknowledgeLine w).pending = s.pending := by
  unfold State.acknowledgeLine
  try dsimp only
  repeat' split
  all_goals simp

@[simp] theorem returnServing_frame (w : LineWord) :
    (s.returnServing w).tableClearing = s.tableClearing ∧
    (s.returnServing w).engines = s.engines ∧ (s.returnServing w).pool = s.pool ∧
    (s.returnServing w).apertures = s.apertures ∧ (s.returnServing w).masters = s.masters ∧
    (s.returnServing w).notices = s.notices ∧ (s.returnServing w).ports = s.ports ∧
    (s.returnServing w).wires = s.wires ∧ (s.returnServing w).req = s.req ∧
    (s.returnServing w).prst = s.prst ∧ (s.returnServing w).clock = s.clock ∧
    (s.returnServing w).freeCount = s.freeCount ∧ (s.returnServing w).pending = s.pending := by
  unfold State.returnServing
  try dsimp only
  repeat' split
  all_goals simp

@[simp] theorem unmapOf_frame (p : Port) (l : LineNo) :
    (s.unmapOf p l).tableClearing = s.tableClearing ∧ (s.unmapOf p l).engines = s.engines ∧
    (s.unmapOf p l).pool = s.pool ∧ (s.unmapOf p l).apertures = s.apertures ∧
    (s.unmapOf p l).masters = s.masters ∧ (s.unmapOf p l).notices = s.notices ∧
    (s.unmapOf p l).ports = s.ports ∧ (s.unmapOf p l).wires = s.wires ∧
    (s.unmapOf p l).req = s.req ∧ (s.unmapOf p l).prst = s.prst ∧
    (s.unmapOf p l).clock = s.clock ∧ (s.unmapOf p l).freeCount = s.freeCount ∧
    (s.unmapOf p l).pending = s.pending := by
  unfold State.unmapOf
  try dsimp only
  repeat' split
  all_goals simp

@[simp] theorem dropFreed_frame :
    (s.dropFreed).channels = s.channels ∧ (s.dropFreed).tableClearing = s.tableClearing ∧
    (s.dropFreed).lines = s.lines ∧ (s.dropFreed).engines = s.engines ∧
    (s.dropFreed).pool = s.pool ∧ (s.dropFreed).apertures = s.apertures ∧
    (s.dropFreed).masters = s.masters ∧ (s.dropFreed).notices = s.notices ∧
    (s.dropFreed).ports = s.ports ∧ (s.dropFreed).wires = s.wires ∧ (s.dropFreed).req = s.req ∧
    (s.dropFreed).prst = s.prst ∧ (s.dropFreed).clock = s.clock ∧
    (s.dropFreed).freeCount = s.freeCount ∧ (s.dropFreed).pending = s.pending := by
  unfold State.dropFreed
  try dsimp only
  repeat' split
  all_goals simp

@[simp] theorem openApertureAt_frame (d : Domain) (i : ApertureNo) (g : Grant) :
    (s.openApertureAt d i g).channels = s.channels ∧
    (s.openApertureAt d i g).tableClearing = s.tableClearing ∧
    (s.openApertureAt d i g).trigger = s.trigger ∧ (s.openApertureAt d i g).lines = s.lines ∧
    (s.openApertureAt d i g).engines = s.engines ∧ (s.openApertureAt d i g).pool = s.pool ∧
    (s.openApertureAt d i g).masters = s.masters ∧ (s.openApertureAt d i g).notices = s.notices ∧
    (s.openApertureAt d i g).ports = s.ports ∧ (s.openApertureAt d i g).req = s.req ∧
    (s.openApertureAt d i g).prst = s.prst ∧ (s.openApertureAt d i g).clock = s.clock ∧
    (s.openApertureAt d i g).freeCount = s.freeCount ∧
    (s.openApertureAt d i g).pending = s.pending := by
  unfold State.openApertureAt
  try dsimp only
  repeat' split
  all_goals simp

@[simp] theorem addUser_frame (d : Domain) (i : ApertureNo) :
    (s.addUser d i).channels = s.channels ∧ (s.addUser d i).tableClearing = s.tableClearing ∧
    (s.addUser d i).trigger = s.trigger ∧ (s.addUser d i).lines = s.lines ∧
    (s.addUser d i).engines = s.engines ∧ (s.addUser d i).pool = s.pool ∧
    (s.addUser d i).masters = s.masters ∧ (s.addUser d i).notices = s.notices ∧
    (s.addUser d i).ports = s.ports ∧ (s.addUser d i).wires = s.wires ∧
    (s.addUser d i).req = s.req ∧ (s.addUser d i).prst = s.prst ∧
    (s.addUser d i).clock = s.clock ∧ (s.addUser d i).freeCount = s.freeCount ∧
    (s.addUser d i).pending = s.pending := by
  unfold State.addUser
  try dsimp only
  repeat' split
  all_goals simp

@[simp] theorem endUser_frame (d : Domain) (i : ApertureNo) :
    (s.endUser d i).channels = s.channels ∧ (s.endUser d i).tableClearing = s.tableClearing ∧
    (s.endUser d i).trigger = s.trigger ∧ (s.endUser d i).lines = s.lines ∧
    (s.endUser d i).engines = s.engines ∧ (s.endUser d i).pool = s.pool ∧
    (s.endUser d i).masters = s.masters ∧ (s.endUser d i).notices = s.notices ∧
    (s.endUser d i).ports = s.ports ∧ (s.endUser d i).req = s.req ∧
    (s.endUser d i).prst = s.prst ∧ (s.endUser d i).clock = s.clock ∧
    (s.endUser d i).freeCount = s.freeCount ∧ (s.endUser d i).pending = s.pending := by
  unfold State.endUser
  try dsimp only
  repeat' split
  all_goals simp

@[simp] theorem revokeIfOpen_frame (d : Domain) (i : ApertureNo) :
    (s.revokeIfOpen d i).channels = s.channels ∧
    (s.revokeIfOpen d i).tableClearing = s.tableClearing ∧
    (s.revokeIfOpen d i).trigger = s.trigger ∧ (s.revokeIfOpen d i).lines = s.lines ∧
    (s.revokeIfOpen d i).engines = s.engines ∧ (s.revokeIfOpen d i).pool = s.pool ∧
    (s.revokeIfOpen d i).masters = s.masters ∧ (s.revokeIfOpen d i).notices = s.notices ∧
    (s.revokeIfOpen d i).ports = s.ports ∧ (s.revokeIfOpen d i).req = s.req ∧
    (s.revokeIfOpen d i).prst = s.prst ∧ (s.revokeIfOpen d i).clock = s.clock ∧
    (s.revokeIfOpen d i).freeCount = s.freeCount ∧ (s.revokeIfOpen d i).pending = s.pending := by
  unfold State.revokeIfOpen
  try dsimp only
  repeat' split
  all_goals simp

@[simp] theorem endEntries_frame (d : Domain) (es : List BusEntry) :
    (s.endEntries d es).channels = s.channels ∧
    (s.endEntries d es).tableClearing = s.tableClearing ∧
    (s.endEntries d es).trigger = s.trigger ∧ (s.endEntries d es).lines = s.lines ∧
    (s.endEntries d es).engines = s.engines ∧ (s.endEntries d es).pool = s.pool ∧
    (s.endEntries d es).apertures = s.apertures ∧ (s.endEntries d es).masters = s.masters ∧
    (s.endEntries d es).notices = s.notices ∧ (s.endEntries d es).ports = s.ports ∧
    (s.endEntries d es).req = s.req ∧ (s.endEntries d es).prst = s.prst ∧
    (s.endEntries d es).clock = s.clock ∧ (s.endEntries d es).freeCount = s.freeCount ∧
    (s.endEntries d es).pending = s.pending := by
  unfold State.endEntries
  induction es generalizing s with
  | nil => simp
  | cons x xs ih =>
    have := ih (s.sendAperture d (.userEnd x.aperture))
    simpa using this

@[simp] theorem take_frame (d : Domain) (e : EngineNo) (t : Txn) :
    (s.take d e t).channels = s.channels ∧ (s.take d e t).tableClearing = s.tableClearing ∧
    (s.take d e t).trigger = s.trigger ∧ (s.take d e t).lines = s.lines ∧
    (s.take d e t).pool = s.pool ∧ (s.take d e t).apertures = s.apertures ∧
    (s.take d e t).notices = s.notices ∧ (s.take d e t).ports = s.ports ∧
    (s.take d e t).req = s.req ∧ (s.take d e t).prst = s.prst ∧ (s.take d e t).clock = s.clock ∧
    (s.take d e t).freeCount = s.freeCount ∧ (s.take d e t).pending = s.pending := by
  unfold State.take
  try dsimp only
  repeat' split
  all_goals simp

@[simp] theorem issue_frame (d : Domain) (a : Admission) (i : ApertureNo) :
    (s.issue d a i).channels = s.channels ∧ (s.issue d a i).tableClearing = s.tableClearing ∧
    (s.issue d a i).trigger = s.trigger ∧ (s.issue d a i).lines = s.lines ∧
    (s.issue d a i).pool = s.pool ∧ (s.issue d a i).apertures = s.apertures ∧
    (s.issue d a i).notices = s.notices ∧ (s.issue d a i).ports = s.ports ∧
    (s.issue d a i).wires = s.wires ∧ (s.issue d a i).req = s.req ∧
    (s.issue d a i).prst = s.prst ∧ (s.issue d a i).clock = s.clock ∧
    (s.issue d a i).freeCount = s.freeCount ∧ (s.issue d a i).pending = s.pending := by
  unfold State.issue
  try dsimp only
  repeat' split
  all_goals simp

@[simp] theorem failEngines_frame (d : Domain) (es : List BusEntry) (k : EngineNo → FailureKind) :
    (s.failEngines d es k).channels = s.channels ∧
    (s.failEngines d es k).tableClearing = s.tableClearing ∧
    (s.failEngines d es k).trigger = s.trigger ∧ (s.failEngines d es k).lines = s.lines ∧
    (s.failEngines d es k).engines = s.engines ∧ (s.failEngines d es k).pool = s.pool ∧
    (s.failEngines d es k).apertures = s.apertures ∧ (s.failEngines d es k).masters = s.masters ∧
    (s.failEngines d es k).notices = s.notices ∧ (s.failEngines d es k).ports = s.ports ∧
    (s.failEngines d es k).req = s.req ∧ (s.failEngines d es k).prst = s.prst ∧
    (s.failEngines d es k).clock = s.clock ∧ (s.failEngines d es k).freeCount = s.freeCount ∧
    (s.failEngines d es k).pending = s.pending := by
  unfold State.failEngines
  generalize List.finRange 4 = order
  induction order generalizing s with
  | nil => simp
  | cons e order ih =>
    simp only [List.foldl_cons]
    split
    · exact ih s
    · have := ih (s.sendEngineWord d ⟨e, .failure (k e) (entriesOf e es)⟩)
      simpa using this

@[simp] theorem expireBus_frame (d : Domain) (x : BusEntry) (n : Nat) :
    (s.expireBus d x n).channels = s.channels ∧
    (s.expireBus d x n).tableClearing = s.tableClearing ∧
    (s.expireBus d x n).trigger = s.trigger ∧ (s.expireBus d x n).lines = s.lines ∧
    (s.expireBus d x n).engines = s.engines ∧ (s.expireBus d x n).pool = s.pool ∧
    (s.expireBus d x n).apertures = s.apertures ∧ (s.expireBus d x n).notices = s.notices ∧
    (s.expireBus d x n).ports = s.ports ∧ (s.expireBus d x n).req = s.req ∧
    (s.expireBus d x n).prst = s.prst ∧ (s.expireBus d x n).freeCount = s.freeCount ∧
    (s.expireBus d x n).pending = s.pending := by
  unfold State.expireBus
  try dsimp only
  repeat' split
  all_goals simp

@[simp] theorem abandon_frame (d : Domain) :
    (s.abandon d).channels = s.channels ∧ (s.abandon d).tableClearing = s.tableClearing ∧
    (s.abandon d).trigger = s.trigger ∧ (s.abandon d).lines = s.lines ∧
    (s.abandon d).engines = s.engines ∧ (s.abandon d).pool = s.pool ∧
    (s.abandon d).apertures = s.apertures ∧ (s.abandon d).notices = s.notices ∧
    (s.abandon d).ports = s.ports ∧ (s.abandon d).req = s.req ∧ (s.abandon d).prst = s.prst ∧
    (s.abandon d).clock = s.clock ∧ (s.abandon d).freeCount = s.freeCount ∧
    (s.abandon d).pending = s.pending := by
  unfold State.abandon
  try dsimp only
  repeat' split
  all_goals simp

@[simp] theorem refuseOffer_frame (d : Domain) (e : EngineNo) (k : AdmissionKind) (t : Txn) :
    (s.refuseOffer d e k t).channels = s.channels ∧
    (s.refuseOffer d e k t).tableClearing = s.tableClearing ∧
    (s.refuseOffer d e k t).trigger = s.trigger ∧ (s.refuseOffer d e k t).lines = s.lines ∧
    (s.refuseOffer d e k t).apertures = s.apertures ∧
    (s.refuseOffer d e k t).masters = s.masters ∧ (s.refuseOffer d e k t).notices = s.notices ∧
    (s.refuseOffer d e k t).ports = s.ports ∧ (s.refuseOffer d e k t).req = s.req ∧
    (s.refuseOffer d e k t).prst = s.prst ∧ (s.refuseOffer d e k t).clock = s.clock ∧
    (s.refuseOffer d e k t).freeCount = s.freeCount ∧
    (s.refuseOffer d e k t).pending = s.pending := by
  unfold State.refuseOffer
  try dsimp only
  repeat' split
  all_goals simp

@[simp] theorem takeBackOffer_frame (d : Domain) (e : EngineNo) :
    (s.takeBackOffer d e).channels = s.channels ∧
    (s.takeBackOffer d e).tableClearing = s.tableClearing ∧
    (s.takeBackOffer d e).trigger = s.trigger ∧ (s.takeBackOffer d e).lines = s.lines ∧
    (s.takeBackOffer d e).apertures = s.apertures ∧ (s.takeBackOffer d e).masters = s.masters ∧
    (s.takeBackOffer d e).notices = s.notices ∧ (s.takeBackOffer d e).ports = s.ports ∧
    (s.takeBackOffer d e).req = s.req ∧ (s.takeBackOffer d e).prst = s.prst ∧
    (s.takeBackOffer d e).clock = s.clock ∧ (s.takeBackOffer d e).freeCount = s.freeCount ∧
    (s.takeBackOffer d e).pending = s.pending := by
  unfold State.takeBackOffer
  try dsimp only
  repeat' split
  all_goals simp

@[simp] theorem absorb_frame (e : EngineNo) (g : Engine) :
    (s.absorb e g).channels = s.channels ∧ (s.absorb e g).tableClearing = s.tableClearing ∧
    (s.absorb e g).trigger = s.trigger ∧ (s.absorb e g).lines = s.lines ∧
    (s.absorb e g).apertures = s.apertures ∧ (s.absorb e g).masters = s.masters ∧
    (s.absorb e g).notices = s.notices ∧ (s.absorb e g).ports = s.ports ∧
    (s.absorb e g).req = s.req ∧ (s.absorb e g).prst = s.prst ∧ (s.absorb e g).clock = s.clock ∧
    (s.absorb e g).freeCount = s.freeCount ∧ (s.absorb e g).pending = s.pending := by
  unfold State.absorb
  try dsimp only
  repeat' split
  all_goals simp

@[simp] theorem readOkay_frame (d : Domain) (e : EngineNo) (t : Txn) (b : List Byte) :
    (s.readOkay d e t b).channels = s.channels ∧
    (s.readOkay d e t b).tableClearing = s.tableClearing ∧
    (s.readOkay d e t b).trigger = s.trigger ∧ (s.readOkay d e t b).lines = s.lines ∧
    (s.readOkay d e t b).apertures = s.apertures ∧ (s.readOkay d e t b).masters = s.masters ∧
    (s.readOkay d e t b).notices = s.notices ∧ (s.readOkay d e t b).ports = s.ports ∧
    (s.readOkay d e t b).req = s.req ∧ (s.readOkay d e t b).prst = s.prst ∧
    (s.readOkay d e t b).clock = s.clock ∧ (s.readOkay d e t b).freeCount = s.freeCount ∧
    (s.readOkay d e t b).pending = s.pending := by
  unfold State.readOkay
  try dsimp only
  repeat' split
  all_goals simp

@[simp] theorem writeOkay_frame (d : Domain) (e : EngineNo) (t : Txn) :
    (s.writeOkay d e t).channels = s.channels ∧
    (s.writeOkay d e t).tableClearing = s.tableClearing ∧
    (s.writeOkay d e t).trigger = s.trigger ∧ (s.writeOkay d e t).lines = s.lines ∧
    (s.writeOkay d e t).apertures = s.apertures ∧ (s.writeOkay d e t).masters = s.masters ∧
    (s.writeOkay d e t).notices = s.notices ∧ (s.writeOkay d e t).ports = s.ports ∧
    (s.writeOkay d e t).req = s.req ∧ (s.writeOkay d e t).prst = s.prst ∧
    (s.writeOkay d e t).clock = s.clock ∧ (s.writeOkay d e t).freeCount = s.freeCount ∧
    (s.writeOkay d e t).pending = s.pending := by
  unfold State.writeOkay
  try dsimp only
  repeat' split
  all_goals simp

@[simp] theorem responseError_frame (d : Domain) (e : EngineNo) (t : Txn) :
    (s.responseError d e t).channels = s.channels ∧
    (s.responseError d e t).tableClearing = s.tableClearing ∧
    (s.responseError d e t).trigger = s.trigger ∧ (s.responseError d e t).lines = s.lines ∧
    (s.responseError d e t).apertures = s.apertures ∧
    (s.responseError d e t).masters = s.masters ∧ (s.responseError d e t).notices = s.notices ∧
    (s.responseError d e t).ports = s.ports ∧ (s.responseError d e t).req = s.req ∧
    (s.responseError d e t).prst = s.prst ∧ (s.responseError d e t).clock = s.clock ∧
    (s.responseError d e t).freeCount = s.freeCount ∧
    (s.responseError d e t).pending = s.pending := by
  unfold State.responseError
  try dsimp only
  repeat' split
  all_goals simp

@[simp] theorem failTxns_frame (d : Domain) (e : EngineNo) (k : FailureKind) (ts : List Txn) :
    (s.failTxns d e k ts).channels = s.channels ∧
    (s.failTxns d e k ts).tableClearing = s.tableClearing ∧
    (s.failTxns d e k ts).trigger = s.trigger ∧ (s.failTxns d e k ts).lines = s.lines ∧
    (s.failTxns d e k ts).apertures = s.apertures ∧ (s.failTxns d e k ts).masters = s.masters ∧
    (s.failTxns d e k ts).notices = s.notices ∧ (s.failTxns d e k ts).ports = s.ports ∧
    (s.failTxns d e k ts).req = s.req ∧ (s.failTxns d e k ts).prst = s.prst ∧
    (s.failTxns d e k ts).clock = s.clock ∧ (s.failTxns d e k ts).freeCount = s.freeCount ∧
    (s.failTxns d e k ts).pending = s.pending := by
  unfold State.failTxns
  try dsimp only
  repeat' split
  all_goals simp

@[simp] theorem causeAbort_frame (ch : ChannelNo) :
    (s.causeAbort ch).channels = s.channels ∧ (s.causeAbort ch).tableClearing = s.tableClearing ∧
    (s.causeAbort ch).trigger = s.trigger ∧ (s.causeAbort ch).lines = s.lines ∧
    (s.causeAbort ch).apertures = s.apertures ∧ (s.causeAbort ch).masters = s.masters ∧
    (s.causeAbort ch).notices = s.notices ∧ (s.causeAbort ch).ports = s.ports ∧
    (s.causeAbort ch).req = s.req ∧ (s.causeAbort ch).prst = s.prst ∧
    (s.causeAbort ch).clock = s.clock ∧ (s.causeAbort ch).freeCount = s.freeCount ∧
    (s.causeAbort ch).pending = s.pending := by
  unfold State.causeAbort
  try dsimp only
  repeat' split
  all_goals simp

@[simp] theorem causeTeardown_frame (ch : ChannelNo) :
    (s.causeTeardown ch).channels = s.channels ∧
    (s.causeTeardown ch).tableClearing = s.tableClearing ∧
    (s.causeTeardown ch).trigger = s.trigger ∧ (s.causeTeardown ch).lines = s.lines ∧
    (s.causeTeardown ch).apertures = s.apertures ∧ (s.causeTeardown ch).masters = s.masters ∧
    (s.causeTeardown ch).notices = s.notices ∧ (s.causeTeardown ch).ports = s.ports ∧
    (s.causeTeardown ch).req = s.req ∧ (s.causeTeardown ch).prst = s.prst ∧
    (s.causeTeardown ch).clock = s.clock ∧ (s.causeTeardown ch).freeCount = s.freeCount ∧
    (s.causeTeardown ch).pending = s.pending := by
  unfold State.causeTeardown
  try dsimp only
  repeat' split
  all_goals simp

@[simp] theorem takePosting_frame (p : Port) (n : SystemNotice) :
    (s.takePosting p n).channels = s.channels ∧
    (s.takePosting p n).tableClearing = s.tableClearing ∧
    (s.takePosting p n).trigger = s.trigger ∧ (s.takePosting p n).lines = s.lines ∧
    (s.takePosting p n).engines = s.engines ∧ (s.takePosting p n).pool = s.pool ∧
    (s.takePosting p n).apertures = s.apertures ∧ (s.takePosting p n).masters = s.masters ∧
    (s.takePosting p n).ports = s.ports ∧ (s.takePosting p n).wires = s.wires ∧
    (s.takePosting p n).req = s.req ∧ (s.takePosting p n).prst = s.prst ∧
    (s.takePosting p n).clock = s.clock ∧ (s.takePosting p n).freeCount = s.freeCount ∧
    (s.takePosting p n).pending = s.pending := by
  unfold State.takePosting
  try dsimp only
  repeat' split
  all_goals simp

@[simp] theorem unparkChannel_frame (ch : ChannelNo) :
    (s.unparkChannel ch).tableClearing = s.tableClearing ∧
    (s.unparkChannel ch).trigger = s.trigger ∧ (s.unparkChannel ch).lines = s.lines ∧
    (s.unparkChannel ch).engines = s.engines ∧ (s.unparkChannel ch).pool = s.pool ∧
    (s.unparkChannel ch).apertures = s.apertures ∧ (s.unparkChannel ch).masters = s.masters ∧
    (s.unparkChannel ch).notices = s.notices ∧ (s.unparkChannel ch).ports = s.ports ∧
    (s.unparkChannel ch).wires = s.wires ∧ (s.unparkChannel ch).req = s.req ∧
    (s.unparkChannel ch).prst = s.prst ∧ (s.unparkChannel ch).clock = s.clock ∧
    (s.unparkChannel ch).freeCount = s.freeCount ∧ (s.unparkChannel ch).pending = s.pending := by
  unfold State.unparkChannel
  try dsimp only
  repeat' split
  all_goals simp

@[simp] theorem writeCmd_frame (p : Port) (c : Word) :
    (s.writeCmd p c).channels = s.channels ∧ (s.writeCmd p c).tableClearing = s.tableClearing ∧
    (s.writeCmd p c).trigger = s.trigger ∧ (s.writeCmd p c).lines = s.lines ∧
    (s.writeCmd p c).engines = s.engines ∧ (s.writeCmd p c).pool = s.pool ∧
    (s.writeCmd p c).apertures = s.apertures ∧ (s.writeCmd p c).masters = s.masters ∧
    (s.writeCmd p c).notices = s.notices ∧ (s.writeCmd p c).req = s.req ∧
    (s.writeCmd p c).prst = s.prst ∧ (s.writeCmd p c).clock = s.clock ∧
    (s.writeCmd p c).freeCount = s.freeCount ∧ (s.writeCmd p c).pending = s.pending := by
  unfold State.writeCmd
  try dsimp only
  repeat' split
  all_goals simp

@[simp] theorem askEngines_frame (p : Port) (l : Latched) :
    (s.askEngines p l).channels = s.channels ∧
    (s.askEngines p l).tableClearing = s.tableClearing ∧ (s.askEngines p l).trigger = s.trigger ∧
    (s.askEngines p l).lines = s.lines ∧ (s.askEngines p l).engines = s.engines ∧
    (s.askEngines p l).pool = s.pool ∧ (s.askEngines p l).apertures = s.apertures ∧
    (s.askEngines p l).masters = s.masters ∧ (s.askEngines p l).notices = s.notices ∧
    (s.askEngines p l).req = s.req ∧ (s.askEngines p l).prst = s.prst ∧
    (s.askEngines p l).clock = s.clock ∧ (s.askEngines p l).freeCount = s.freeCount ∧
    (s.askEngines p l).pending = s.pending := by
  unfold State.askEngines
  try dsimp only
  repeat' split
  all_goals simp

@[simp] theorem takePart_frame (p : Port) (x : EnginesPart) :
    (s.takePart p x).channels = s.channels ∧ (s.takePart p x).tableClearing = s.tableClearing ∧
    (s.takePart p x).trigger = s.trigger ∧ (s.takePart p x).lines = s.lines ∧
    (s.takePart p x).engines = s.engines ∧ (s.takePart p x).pool = s.pool ∧
    (s.takePart p x).apertures = s.apertures ∧ (s.takePart p x).masters = s.masters ∧
    (s.takePart p x).notices = s.notices ∧ (s.takePart p x).wires = s.wires ∧
    (s.takePart p x).req = s.req ∧ (s.takePart p x).prst = s.prst ∧
    (s.takePart p x).clock = s.clock ∧ (s.takePart p x).freeCount = s.freeCount ∧
    (s.takePart p x).pending = s.pending := by
  unfold State.takePart
  try dsimp only
  repeat' split
  all_goals simp

@[simp] theorem freezeWindow_frame (p : Port) :
    (s.freezeWindow p).channels = s.channels ∧
    (s.freezeWindow p).tableClearing = s.tableClearing ∧ (s.freezeWindow p).trigger = s.trigger ∧
    (s.freezeWindow p).lines = s.lines ∧ (s.freezeWindow p).engines = s.engines ∧
    (s.freezeWindow p).pool = s.pool ∧ (s.freezeWindow p).apertures = s.apertures ∧
    (s.freezeWindow p).masters = s.masters ∧ (s.freezeWindow p).notices = s.notices ∧
    (s.freezeWindow p).req = s.req ∧ (s.freezeWindow p).prst = s.prst ∧
    (s.freezeWindow p).clock = s.clock ∧ (s.freezeWindow p).freeCount = s.freeCount ∧
    (s.freezeWindow p).pending = s.pending := by
  unfold State.freezeWindow
  try dsimp only
  repeat' split
  all_goals simp

@[simp] theorem resetSession_frame (p : Port) :
    (s.resetSession p).channels = s.channels ∧
    (s.resetSession p).tableClearing = s.tableClearing ∧ (s.resetSession p).trigger = s.trigger ∧
    (s.resetSession p).lines = s.lines ∧ (s.resetSession p).engines = s.engines ∧
    (s.resetSession p).pool = s.pool ∧ (s.resetSession p).apertures = s.apertures ∧
    (s.resetSession p).masters = s.masters ∧ (s.resetSession p).notices = s.notices ∧
    (s.resetSession p).req = s.req ∧ (s.resetSession p).prst = s.prst ∧
    (s.resetSession p).clock = s.clock ∧ (s.resetSession p).freeCount = s.freeCount ∧
    (s.resetSession p).pending = s.pending := by
  unfold State.resetSession
  try dsimp only
  repeat' split
  all_goals simp

@[simp] theorem markField_frame (p : Port) (f : TeardownField) :
    (s.markField p f).channels = s.channels ∧ (s.markField p f).tableClearing = s.tableClearing ∧
    (s.markField p f).trigger = s.trigger ∧ (s.markField p f).lines = s.lines ∧
    (s.markField p f).engines = s.engines ∧ (s.markField p f).pool = s.pool ∧
    (s.markField p f).apertures = s.apertures ∧ (s.markField p f).masters = s.masters ∧
    (s.markField p f).notices = s.notices ∧ (s.markField p f).wires = s.wires ∧
    (s.markField p f).req = s.req ∧ (s.markField p f).prst = s.prst ∧
    (s.markField p f).clock = s.clock ∧ (s.markField p f).freeCount = s.freeCount ∧
    (s.markField p f).pending = s.pending := by
  unfold State.markField
  try dsimp only
  repeat' split
  all_goals simp

end Sys2Proof.Machine
end

