-- ==== Sys2Proof/Laws/Commands.lean ====
section
/-! SUPPORT. What taking a command can do, and what a step can do: each shared way of taking a
happening, as its cases, and the induction that follows for a condition on states. -/

namespace Sys2Proof.Machine

/-- An owner takes the oldest command handed over, or nothing changes. -/
theorem ownerTakes_cases (c : Command) (act : Act) (p : Port) (s : State) :
    ownerTakes c act p s = s ∨
      ∃ l rest, s.wires.handed.get p = l :: rest ∧ commandOf l.code = some c ∧ unitOwned l = false ∧
        ownerTakes c act p s =
          (act p l.args (s.setHanded p rest)).2.sendAnswer p
            ⟨l.cycle, (act p l.args (s.setHanded p rest)).1⟩ := by
  unfold ownerTakes
  split
  · next l rest h =>
    split
    · next hc => exact .inr ⟨l, rest, h, hc.1, by simpa using hc.2, rfl⟩
    · exact .inl rfl
  · exact .inl rfl

/-- The Port Command Unit takes the oldest command handed over, or nothing changes. -/
theorem unitTakes_cases (picks : Latched → Bool) (act : Act) (p : Port) (s : State) :
    unitTakes picks act p s = s ∨
      ∃ l rest, s.wires.handed.get p = l :: rest ∧ picks l ∧ unitOwned l ∧
        unitTakes picks act p s =
          (act p l.args (s.setHanded p rest)).2.writeAnswer p
            ⟨l.cycle, (act p l.args (s.setHanded p rest)).1⟩ := by
  unfold unitTakes
  split
  · next l rest h =>
    split
    · next hc => exact .inr ⟨l, rest, h, hc.1, hc.2, rfl⟩
    · exact .inl rfl
  · exact .inl rfl

/-- An aperture command is taken by the unit of the named domain, by the Port Command Unit, or nothing
changes. -/
theorem apertureTakes_cases (c : Command) (act : Domain → Act) (p : Port) (s : State) :
    apertureTakes c act p s = s ∨ (∃ d, apertureTakes c act p s = ownerTakes c (act d) p s) ∨
      apertureTakes c act p s = unitTakes (fun _ => true) noUnitAct p s := by
  unfold apertureTakes
  repeat' split
  · exact .inr (.inl ⟨_, rfl⟩)
  · exact .inr (.inr rfl)
  · exact .inl rfl
  · exact .inl rfl

/-- A condition that the hand-over of commands and answers does not touch is kept by an owner whose
effect keeps it. -/
theorem ownerTakes_keeps {P : State → Prop} {c : Command} {act : Act} {p : Port} {s : State}
    (handed : ∀ t ls, P t → P (t.setHanded p ls)) (answer : ∀ t a, P t → P (t.sendAnswer p a))
    (effect : ∀ a t, P t → P (act p a t).2) (h : P s) : P (ownerTakes c act p s) := by
  rcases ownerTakes_cases c act p s with e | ⟨l, rest, -, -, -, e⟩
  · rwa [e]
  · rw [e]
    exact answer _ _ (effect _ _ (handed _ _ h))

/-- The same for the commands that the Port Command Unit takes itself. -/
theorem unitTakes_keeps {P : State → Prop} {picks : Latched → Bool} {act : Act} {p : Port} {s : State}
    (handed : ∀ t ls, P t → P (t.setHanded p ls)) (answer : ∀ t a, P t → P (t.writeAnswer p a))
    (effect : ∀ a t, P t → P (act p a t).2) (h : P s) : P (unitTakes picks act p s) := by
  rcases unitTakes_cases picks act p s with e | ⟨l, rest, -, -, -, e⟩
  · rwa [e]
  · rw [e]
    exact answer _ _ (effect _ _ (handed _ _ h))

/-- The same for aperture commands. -/
theorem apertureTakes_keeps {P : State → Prop} {c : Command} {act : Domain → Act} {p : Port}
    {s : State} (handed : ∀ t ls, P t → P (t.setHanded p ls))
    (sent : ∀ t a, P t → P (t.sendAnswer p a)) (written : ∀ t a, P t → P (t.writeAnswer p a))
    (effect : ∀ d a t, P t → P (act d p a t).2) (h : P s) : P (apertureTakes c act p s) := by
  rcases apertureTakes_cases c act p s with e | ⟨d, e⟩ | e
  · rwa [e]
  · rw [e]
    exact ownerTakes_keeps handed sent (effect d) h
  · rw [e]
    refine unitTakes_keeps handed written (fun a t ht => ?_) h
    unfold noUnitAct
    split <;> exact ht

/-- A fold keeps what each of its steps keeps. -/
theorem foldl_keeps {α : Type} {P : State → Prop} {f : State → α → State}
    (each : ∀ t x, P t → P (f t x)) (xs : List α) {s : State} (h : P s) : P (xs.foldl f s) := by
  induction xs generalizing s with
  | nil => exact h
  | cons x xs ih => exact ih (each s x h)

end Sys2Proof.Machine
end

