-- ==== Sys2Proof/Laws/Wires.lean ====
section
/-! SUPPORT. What the shared operations never touch of the hand-offs between a Bus Master and its
Aperture Unit, the words under way to the unit and its answers (R97–R103, R107, R110), and which of them
never touch the reports under way from the engines (R50). -/

namespace Sys2Proof.Machine

variable (s : State)

@[simp] theorem endEntries_admissions (d : Domain) (es : List BusEntry) :
    (s.endEntries d es).wires.admissions = s.wires.admissions := by
  unfold State.endEntries
  induction es generalizing s with
  | nil => rfl
  | cons x xs ih =>
    have := ih (s.sendAperture d (.userEnd x.aperture))
    simpa using this

@[simp] theorem reportChannels_admissions (p : Port) :
    (s.reportChannels p).wires.aperture = s.wires.aperture ∧
      (s.reportChannels p).wires.admissions = s.wires.admissions := by
  unfold State.reportChannels
  try dsimp only
  repeat' split
  all_goals simp

@[simp] theorem tryStopEnd_admissions (e : EngineNo) :
    (s.tryStopEnd e).wires.aperture = s.wires.aperture ∧
      (s.tryStopEnd e).wires.admissions = s.wires.admissions := by
  unfold State.tryStopEnd
  try dsimp only
  repeat' split
  all_goals simp

@[simp] theorem beginStop_admissions (e : EngineNo) (w : Work) (c : StopCause) :
    (s.beginStop e w c).wires.aperture = s.wires.aperture ∧
      (s.beginStop e w c).wires.admissions = s.wires.admissions := by
  unfold State.beginStop
  try dsimp only
  repeat' split
  all_goals simp

@[simp] theorem takeFault_admissions (e : EngineNo) (w : Work) (r : FaultRecord) :
    (s.takeFault e w r).wires.aperture = s.wires.aperture ∧
      (s.takeFault e w r).wires.admissions = s.wires.admissions := by
  unfold State.takeFault
  try dsimp only
  repeat' split
  all_goals simp

@[simp] theorem endUnit_admissions (e : EngineNo) (w : Work) :
    (s.endUnit e w).wires.aperture = s.wires.aperture ∧
      (s.endUnit e w).wires.admissions = s.wires.admissions := by
  unfold State.endUnit
  try dsimp only
  repeat' split
  all_goals simp

@[simp] theorem closeAperture_admissions (d : Domain) (i : ApertureNo) :
    (s.closeAperture d i).wires.aperture = s.wires.aperture ∧
      (s.closeAperture d i).wires.admissions = s.wires.admissions := by
  unfold State.closeAperture
  try dsimp only
  repeat' split
  all_goals simp

@[simp] theorem reportApertures_admissions (d : Domain) :
    (s.reportApertures d).wires.aperture = s.wires.aperture ∧
      (s.reportApertures d).wires.admissions = s.wires.admissions := by
  unfold State.reportApertures
  try dsimp only
  repeat' split
  all_goals simp

@[simp] theorem revoke_admissions (d : Domain) (i : ApertureNo) :
    (s.revoke d i).wires.aperture = s.wires.aperture ∧
      (s.revoke d i).wires.admissions = s.wires.admissions := by
  unfold State.revoke
  try dsimp only
  repeat' split
  all_goals simp

@[simp] theorem startTeardown_admissions (p : Port) (c : TeardownCause) :
    (s.startTeardown p c).wires.aperture = s.wires.aperture ∧
      (s.startTeardown p c).wires.admissions = s.wires.admissions := by
  unfold State.startTeardown
  try dsimp only
  repeat' split
  all_goals simp

@[simp] theorem acknowledge_admissions (ch : ChannelNo) :
    (s.acknowledge ch).wires.aperture = s.wires.aperture ∧
      (s.acknowledge ch).wires.admissions = s.wires.admissions := by
  unfold State.acknowledge
  try dsimp only
  repeat' split
  all_goals simp

@[simp] theorem returnLine_admissions (ch : ChannelNo) :
    (s.returnLine ch).wires.aperture = s.wires.aperture ∧
      (s.returnLine ch).wires.admissions = s.wires.admissions := by
  unfold State.returnLine
  try dsimp only
  repeat' split
  all_goals simp

@[simp] theorem fireLink_admissions (ch : ChannelNo) (p : Program) (n : Nat) :
    (s.fireLink ch p n).wires.aperture = s.wires.aperture ∧
      (s.fireLink ch p n).wires.admissions = s.wires.admissions := by
  unfold State.fireLink
  try dsimp only
  repeat' split
  all_goals simp

@[simp] theorem unitEnd_admissions (ch : ChannelNo) (r : Progress) (o : Origin) :
    (s.unitEnd ch r o).wires.aperture = s.wires.aperture ∧
      (s.unitEnd ch r o).wires.admissions = s.wires.admissions := by
  unfold State.unitEnd
  try dsimp only
  repeat' split
  all_goals simp

@[simp] theorem freeStopped_admissions (ch : ChannelNo) :
    (s.freeStopped ch).wires.aperture = s.wires.aperture ∧
      (s.freeStopped ch).wires.admissions = s.wires.admissions := by
  unfold State.freeStopped
  try dsimp only
  repeat' split
  all_goals simp

@[simp] theorem stopUnit_admissions (ch : ChannelNo) (r : Progress) (c : StopCause) :
    (s.stopUnit ch r c).wires.aperture = s.wires.aperture ∧
      (s.stopUnit ch r c).wires.admissions = s.wires.admissions := by
  unfold State.stopUnit
  try dsimp only
  repeat' split
  all_goals simp

@[simp] theorem deliverLink_admissions (w : LinkWord) :
    (s.deliverLink w).wires.aperture = s.wires.aperture ∧
      (s.deliverLink w).wires.admissions = s.wires.admissions := by
  unfold State.deliverLink
  try dsimp only
  repeat' split
  all_goals simp

@[simp] theorem tearDownChannel_admissions (p : Port) (ch : ChannelNo) :
    (s.tearDownChannel p ch).wires.aperture = s.wires.aperture ∧
      (s.tearDownChannel p ch).wires.admissions = s.wires.admissions := by
  unfold State.tearDownChannel
  try dsimp only
  repeat' split
  all_goals simp

@[simp] theorem startUnit_admissions (e : EngineNo) (w : Work) :
    (s.startUnit e w).wires.aperture = s.wires.aperture ∧
      (s.startUnit e w).wires.admissions = s.wires.admissions := by
  unfold State.startUnit
  try dsimp only
  repeat' split
  all_goals simp

@[simp] theorem dispatchHead_admissions (e : EngineNo) (k : SchedClass) (ch : ChannelNo) (q : List ChannelNo) :
    (s.dispatchHead e k ch q).wires.aperture = s.wires.aperture ∧
      (s.dispatchHead e k ch q).wires.admissions = s.wires.admissions := by
  unfold State.dispatchHead
  try dsimp only
  repeat' split
  all_goals simp

@[simp] theorem openApertureAt_admissions (d : Domain) (i : ApertureNo) (g : Grant) :
    (s.openApertureAt d i g).wires.aperture = s.wires.aperture ∧
      (s.openApertureAt d i g).wires.admissions = s.wires.admissions := by
  unfold State.openApertureAt
  try dsimp only
  repeat' split
  all_goals simp

@[simp] theorem endUser_admissions (d : Domain) (i : ApertureNo) :
    (s.endUser d i).wires.aperture = s.wires.aperture ∧
      (s.endUser d i).wires.admissions = s.wires.admissions := by
  unfold State.endUser
  try dsimp only
  repeat' split
  all_goals simp

@[simp] theorem revokeIfOpen_admissions (d : Domain) (i : ApertureNo) :
    (s.revokeIfOpen d i).wires.aperture = s.wires.aperture ∧
      (s.revokeIfOpen d i).wires.admissions = s.wires.admissions := by
  unfold State.revokeIfOpen
  try dsimp only
  repeat' split
  all_goals simp

@[simp] theorem failEngines_admissions (d : Domain) (es : List BusEntry) (k : EngineNo → FailureKind) :
    (s.failEngines d es k).wires.aperture = s.wires.aperture ∧
      (s.failEngines d es k).wires.admissions = s.wires.admissions := by
  unfold State.failEngines
  generalize List.finRange 4 = order
  induction order generalizing s with
  | nil => simp
  | cons e order ih =>
    simp only [List.foldl_cons]
    split
    · exact ih s
    · have := ih (s.sendEngineWord d ⟨e, .failure (k e) (entriesOf e es)⟩)
      simpa using this

@[simp] theorem expireBus_admissions (d : Domain) (x : BusEntry) (n : Nat) :
    (s.expireBus d x n).wires.aperture = s.wires.aperture ∧
      (s.expireBus d x n).wires.admissions = s.wires.admissions := by
  unfold State.expireBus
  try dsimp only
  repeat' split
  all_goals simp

@[simp] theorem refuseOffer_admissions (d : Domain) (e : EngineNo) (k : AdmissionKind) (t : Txn) :
    (s.refuseOffer d e k t).wires.aperture = s.wires.aperture ∧
      (s.refuseOffer d e k t).wires.admissions = s.wires.admissions := by
  unfold State.refuseOffer
  try dsimp only
  repeat' split
  all_goals simp

@[simp] theorem takeBackOffer_admissions (d : Domain) (e : EngineNo) :
    (s.takeBackOffer d e).wires.aperture = s.wires.aperture ∧
      (s.takeBackOffer d e).wires.admissions = s.wires.admissions := by
  unfold State.takeBackOffer
  try dsimp only
  repeat' split
  all_goals simp

@[simp] theorem absorb_admissions (e : EngineNo) (g : Engine) :
    (s.absorb e g).wires.aperture = s.wires.aperture ∧
      (s.absorb e g).wires.admissions = s.wires.admissions := by
  unfold State.absorb
  try dsimp only
  repeat' split
  all_goals simp

@[simp] theorem readOkay_admissions (d : Domain) (e : EngineNo) (t : Txn) (b : List Byte) :
    (s.readOkay d e t b).wires.aperture = s.wires.aperture ∧
      (s.readOkay d e t b).wires.admissions = s.wires.admissions := by
  unfold State.readOkay
  try dsimp only
  repeat' split
  all_goals simp

@[simp] theorem writeOkay_admissions (d : Domain) (e : EngineNo) (t : Txn) :
    (s.writeOkay d e t).wires.aperture = s.wires.aperture ∧
      (s.writeOkay d e t).wires.admissions = s.wires.admissions := by
  unfold State.writeOkay
  try dsimp only
  repeat' split
  all_goals simp

@[simp] theorem responseError_admissions (d : Domain) (e : EngineNo) (t : Txn) :
    (s.responseError d e t).wires.aperture = s.wires.aperture ∧
      (s.responseError d e t).wires.admissions = s.wires.admissions := by
  unfold State.responseError
  try dsimp only
  repeat' split
  all_goals simp

@[simp] theorem failTxns_admissions (d : Domain) (e : EngineNo) (k : FailureKind) (ts : List Txn) :
    (s.failTxns d e k ts).wires.aperture = s.wires.aperture ∧
      (s.failTxns d e k ts).wires.admissions = s.wires.admissions := by
  unfold State.failTxns
  try dsimp only
  repeat' split
  all_goals simp

@[simp] theorem causeAbort_admissions (ch : ChannelNo) :
    (s.causeAbort ch).wires.aperture = s.wires.aperture ∧
      (s.causeAbort ch).wires.admissions = s.wires.admissions := by
  unfold State.causeAbort
  try dsimp only
  repeat' split
  all_goals simp

@[simp] theorem causeTeardown_admissions (ch : ChannelNo) :
    (s.causeTeardown ch).wires.aperture = s.wires.aperture ∧
      (s.causeTeardown ch).wires.admissions = s.wires.admissions := by
  unfold State.causeTeardown
  try dsimp only
  repeat' split
  all_goals simp

@[simp] theorem writeCmd_admissions (p : Port) (c : Word) :
    (s.writeCmd p c).wires.aperture = s.wires.aperture ∧
      (s.writeCmd p c).wires.admissions = s.wires.admissions := by
  unfold State.writeCmd
  try dsimp only
  repeat' split
  all_goals simp

@[simp] theorem askEngines_admissions (p : Port) (l : Latched) :
    (s.askEngines p l).wires.aperture = s.wires.aperture ∧
      (s.askEngines p l).wires.admissions = s.wires.admissions := by
  unfold State.askEngines
  try dsimp only
  repeat' split
  all_goals simp

@[simp] theorem freezeWindow_admissions (p : Port) :
    (s.freezeWindow p).wires.aperture = s.wires.aperture ∧
      (s.freezeWindow p).wires.admissions = s.wires.admissions := by
  unfold State.freezeWindow
  try dsimp only
  repeat' split
  all_goals simp

@[simp] theorem resetSession_admissions (p : Port) :
    (s.resetSession p).wires.aperture = s.wires.aperture ∧
      (s.resetSession p).wires.admissions = s.wires.admissions := by
  unfold State.resetSession
  try dsimp only
  repeat' split
  all_goals simp

/-! The reports under way from the engines are left alone by every operation of another block (R50). -/

@[simp] theorem endEntries_reports (d : Domain) (es : List BusEntry) :
    (s.endEntries d es).wires.reports = s.wires.reports := by
  unfold State.endEntries
  induction es generalizing s with
  | nil => rfl
  | cons x xs ih =>
    have := ih (s.sendAperture d (.userEnd x.aperture))
    simpa using this

@[simp] theorem failEngines_reports (d : Domain) (es : List BusEntry) (k : EngineNo → FailureKind) :
    (s.failEngines d es k).wires.reports = s.wires.reports := by
  unfold State.failEngines
  generalize List.finRange 4 = order
  induction order generalizing s with
  | nil => simp
  | cons e order ih =>
    simp only [List.foldl_cons]
    split
    · exact ih s
    · have := ih (s.sendEngineWord d ⟨e, .failure (k e) (entriesOf e es)⟩)
      simpa using this

@[simp] theorem expireBus_reports (d : Domain) (x : BusEntry) (n : Nat) :
    (s.expireBus d x n).wires.reports = s.wires.reports := by
  unfold State.expireBus
  simp

@[simp] theorem abandon_reports (d : Domain) : (s.abandon d).wires.reports = s.wires.reports := by
  unfold State.abandon
  simp

@[simp] theorem reportChannels_reports (p : Port) :
    (s.reportChannels p).wires.reports = s.wires.reports := by
  unfold State.reportChannels
  try dsimp only
  repeat' split
  all_goals simp

@[simp] theorem acknowledge_reports (ch : ChannelNo) :
    (s.acknowledge ch).wires.reports = s.wires.reports := by
  unfold State.acknowledge
  try dsimp only
  repeat' split
  all_goals simp

@[simp] theorem returnLine_reports (ch : ChannelNo) :
    (s.returnLine ch).wires.reports = s.wires.reports := by
  unfold State.returnLine
  try dsimp only
  repeat' split
  all_goals simp

@[simp] theorem fireLink_reports (ch : ChannelNo) (p : Program) (n : Nat) :
    (s.fireLink ch p n).wires.reports = s.wires.reports := by
  unfold State.fireLink
  try dsimp only
  repeat' split
  all_goals simp

@[simp] theorem startTeardown_reports (p : Port) (c : TeardownCause) :
    (s.startTeardown p c).wires.reports = s.wires.reports := by
  unfold State.startTeardown
  try dsimp only
  repeat' split
  all_goals simp

@[simp] theorem closeAperture_reports (d : Domain) (i : ApertureNo) :
    (s.closeAperture d i).wires.reports = s.wires.reports := by
  unfold State.closeAperture
  try dsimp only
  repeat' split
  all_goals simp

@[simp] theorem reportApertures_reports (d : Domain) :
    (s.reportApertures d).wires.reports = s.wires.reports := by
  unfold State.reportApertures
  try dsimp only
  repeat' split
  all_goals simp

@[simp] theorem revoke_reports (d : Domain) (i : ApertureNo) :
    (s.revoke d i).wires.reports = s.wires.reports := by
  unfold State.revoke
  try dsimp only
  repeat' split
  all_goals simp

@[simp] theorem openApertureAt_reports (d : Domain) (i : ApertureNo) (g : Grant) :
    (s.openApertureAt d i g).wires.reports = s.wires.reports := by
  unfold State.openApertureAt
  try dsimp only
  repeat' split
  all_goals simp

@[simp] theorem endUser_reports (d : Domain) (i : ApertureNo) :
    (s.endUser d i).wires.reports = s.wires.reports := by
  unfold State.endUser
  try dsimp only
  repeat' split
  all_goals simp

@[simp] theorem revokeIfOpen_reports (d : Domain) (i : ApertureNo) :
    (s.revokeIfOpen d i).wires.reports = s.wires.reports := by
  unfold State.revokeIfOpen
  try dsimp only
  repeat' split
  all_goals simp

@[simp] theorem startUnit_reports (e : EngineNo) (w : Work) :
    (s.startUnit e w).wires.reports = s.wires.reports := by
  unfold State.startUnit
  try dsimp only
  repeat' split
  all_goals simp

@[simp] theorem deliverLink_reports (w : LinkWord) :
    (s.deliverLink w).wires.reports = s.wires.reports := by
  unfold State.deliverLink
  try dsimp only
  repeat' split
  all_goals simp

@[simp] theorem tearDownChannel_reports (p : Port) (ch : ChannelNo) :
    (s.tearDownChannel p ch).wires.reports = s.wires.reports := by
  unfold State.tearDownChannel
  try dsimp only
  repeat' split
  all_goals simp

@[simp] theorem take_reports (d : Domain) (e : EngineNo) (t : Txn) :
    (s.take d e t).wires.reports = s.wires.reports := by
  unfold State.take
  try dsimp only
  repeat' split
  all_goals simp

@[simp] theorem writeCmd_reports (p : Port) (c : Word) :
    (s.writeCmd p c).wires.reports = s.wires.reports := by
  unfold State.writeCmd
  try dsimp only
  repeat' split
  all_goals simp

@[simp] theorem askEngines_reports (p : Port) (l : Latched) :
    (s.askEngines p l).wires.reports = s.wires.reports := by
  unfold State.askEngines
  try dsimp only
  repeat' split
  all_goals simp

@[simp] theorem freezeWindow_reports (p : Port) :
    (s.freezeWindow p).wires.reports = s.wires.reports := by
  unfold State.freezeWindow
  try dsimp only
  repeat' split
  all_goals simp

@[simp] theorem resetSession_reports (p : Port) :
    (s.resetSession p).wires.reports = s.wires.reports := by
  unfold State.resetSession
  try dsimp only
  repeat' split
  all_goals simp

end Sys2Proof.Machine
end

