-- ==== Sys2Proof/WellFormed.lean ====
section
/-! DEFINITION. What a command must satisfy beyond its types. The meanings are total: an ill-formed
command is one no outside agent can cause, and its effect is said in the meaning all the same. -/

namespace Sys2Proof

/-- Byte offsets of Table 10-1 that REGISTER_WRITE may name: ARG0–ARG7, RES0–RES3 and the
unassigned 3Ch. CMD, PSTAT and INTEN have rows of their own. -/
def plainOffset (o : BitVec 6) : Bool :=
  o.toNat % 4 == 0 && ((0x04 ≤ o.toNat && o.toNat ≤ 0x30) || o.toNat == 0x3C)

/-- - A bus response carries at most 32 bytes (section 6.1).
- REGISTER_WRITE names a register without a row of its own (Table 10-1).
- An expiry names one of at most 16 places of a bus list (R107).
- Positions of hand-offs are free: a position past the last one names nothing. -/
def WellFormed : Instr → Bool
  | .busResponse _ (.okay data) => data.length ≤ 32
  | .registerWrite _ offset _ => plainOffset offset
  | .responseLimitExpiry _ position => position < 16
  | _ => true

end Sys2Proof
end

