-- ==== Sys2Proof/Tests/Slice0.lean ====
section
/-! SUPPORT. Tests of the model against the spec's own tables and worked examples, and for every
obligation a state and operands that meet its hypotheses, at boundary values. -/

namespace Sys2Proof.Tests

open Sys2Proof.Machine

/-! ### Small states -/

/-- Both ports ONLINE, everything else as after reset. -/
def online : State :=
  { State.reset with ports := .both { PortUnit.reset with session := .online } }

/-- A latched command: its code and the first of its arguments, the others 0. -/
def ask (code : Nat) (args : List Nat) : Latched :=
  ⟨0, BitVec.ofNat 32 code, .tabulate fun i => BitVec.ofNat 32 (args.getD i.val 0)⟩

/-- The command is latched, BUSY, and handed over. -/
def asked (s : State) (p : Port) (l : Latched) : State :=
  { s with
    ports := s.ports.set p { s.port p with latched := some l }
    wires := { s.wires with handed := s.wires.handed.set p [l] } }

/-- The state after a command; each one answers a next state. -/
def after (c : Instr) (s : State) : State :=
  match exec c s with
  | .next t => t
  | _ => s

/-- The answer on its way to a port, last sent. -/
def answered (c : Instr) (p : Port) (s : State) : Option Reply :=
  ((after c s).wires.answers.get p).getLast?.map (·.reply)

/-- RES0 and result code of that answer. -/
def code (c : Instr) (p : Port) (s : State) : Option (ResultCode × Nat) :=
  (answered c p s).map fun r => (r.code, (r.res.row 0).toNat)

/-- The program of Table 1-6 (channel 9), of the class and mode given. -/
def program (m : Mode) (policy : NoticePolicy) : Program :=
  { mode := m, size := .four, src := ⟨.a, 0x10000, .increment⟩, dst := ⟨.b, 0x80000, .increment⟩
    count := 40, link := some ⟨10, .atEnd⟩, policy, cls := .normal, readAhead := .depth2 }

/-- Table 1-6. -/
def blocks : Program := program (.block 16) .eachUnit

/-- A channel of a port in a state, with the program of Table 1-6 at its start. -/
def chan (p : Port) (st : ChannelState) (credit : Nat) : Channel :=
  { Channel.free with
    owner := some p, state := st, credit, loaded := some ⟨blocks, 0x10000, 0x80000, 40⟩ }

/-- A RUNNING channel of that program. -/
def running (p : Port) (credit : Nat) : Channel :=
  { chan p .running credit with origin := some .credit }

/-- The first unit of channel 9 at an engine (Table 3-3: 16 elements). -/
def work (ch : ChannelNo) (p : Port) : Work := workOf ch p ⟨blocks, 0x10000, 0x80000, 40⟩ .credit

/-- An engine at that unit. -/
def busy (ch : ChannelNo) (p : Port) : Engine :=
  { Engine.idle with phase := .running (work ch p) }

/-- The read of the unit that lies in the first span: 8 elements, 32 bytes. -/
def read0 : Txn := ⟨.read, 0, 0x10000, 32, 0, 8⟩

def write0 : Txn := ⟨.write, 0, 0x80000, 32, 0, 8⟩

/-! ### Well-formed commands, and the schedule -/

theorem test_wellformed_response_of_32_bytes :
    WellFormed (.busResponse .a (.okay (List.replicate 32 0))) = true := by decide

theorem test_illformed_response_of_33_bytes :
    WellFormed (.busResponse .a (.okay (List.replicate 33 0))) = false := by decide

theorem test_illformed_register_offsets :
    WellFormed (.registerWrite .a 0x00 0) = false ∧ WellFormed (.registerWrite .a 0x06 0) = false ∧
      WellFormed (.registerWrite .a 0x34 0) = false ∧ WellFormed (.registerWrite .a 0x20 0) = true := by
  decide

theorem test_illformed_expiry_past_the_list :
    WellFormed (.responseLimitExpiry .b 16) = false ∧
      WellFormed (.responseLimitExpiry .b 15) = true := by decide

/-- The table gives no bits, so no word spells a command. -/
theorem test_no_word_spells_a_command : decodeTableWord 8 0x20 = none := rfl

theorem witness_StepRunsFrontCommandOrIdles : State.reset.pending = [] := rfl

/-! ### A state with every block at work, for the invariants -/

/-- Port A's channels 4 to 11 in every state but FREE and FAULTED. -/
def channels : Table Channel 64 :=
  (((((((Table.fill 64 Channel.free).put 4
    { chan .a .posting 0 with afterState := some .idle }).put 5 (chan .a .idle 0)).put 6
    (chan .a .ready 15)).put 7 (running .a 14)).put 8 (chan .a .ready 0)).put 9
    { chan .a .ready 0 with mappedLine := some 3, linePending := true }).put 10 (chan .a .ready 14)

/-- Channel 7 runs on E1 with its first line, room for its first read and that read on the bus;
channels 6, 9 and 10 are queued; line 3 is PENDING for channel 9; channel 4's notice is parked. -/
def lively : State :=
  ({ online with
      channels := channels
      trigger := ⟨[], [6, 9, 10], [], 8, 0⟩
      lines := online.lines.put 3 ⟨.pending, some ⟨9, .a⟩, 0⟩
      pool :=
        { online.pool with
          engines := online.pool.engines.put 1 ⟨[⟨0, 2⟩], some ⟨2, false⟩, .none⟩ }
      apertures :=
        online.apertures.set .a
          { online.apertureUnit .a with
            records :=
              (online.apertureUnit .a).records.put 2
                ⟨.open, some ⟨0x10000, 1, .read, .self⟩, 1, 1⟩ }
      masters :=
        online.masters.set .a
          { BusMaster.reset with
            list := [⟨.outstanding, 1, read0, 2, some 1000, []⟩], lastServed := 1 }
      notices :=
        online.notices.set .a
          { NoticeUnit.reset with
            queue := [⟨.system .peerReady, 0, 1⟩], sequence := 1
            parking := [⟨4, .channelDone 4 0 16 .credit 0⟩] }
      pending := [.dispatch] } : State).setEngine 1
    { busy 7 .a with
      phase := .running { work 7 .a with readPos := 1 }, outstanding := [⟨.a, read0⟩] }

theorem lively_channel (ch : ChannelNo) :
    lively.channel ch =
      if ch = 10 then chan .a .ready 14
      else if ch = 9 then { chan .a .ready 0 with mappedLine := some 3, linePending := true }
      else if ch = 8 then chan .a .ready 0
      else if ch = 7 then running .a 14
      else if ch = 6 then chan .a .ready 15
      else if ch = 5 then chan .a .idle 0
      else if ch = 4 then { chan .a .posting 0 with afterState := some .idle }
      else Channel.free := by
  show channels.row ch = _
  simp only [channels, Table.row_put, Table.row_fill, eq_comm]

theorem lively_channels_sound : lively.ChannelsSound := by
  intro ch
  rw [lively_channel]
  repeat' split
  all_goals constructor <;> simp [chan, running, Channel.free]

theorem lively_records_sound : lively.RecordsSound := by
  refine ⟨lively_channels_sound, ⟨by decide, ?_⟩, by unfold State.SkipsSound; decide⟩
  intro k ch h
  have h : ch ∈ (match k with | .normal => [(6 : ChannelNo), 9, 10] | _ => []) := by
    cases k <;> exact h
  cases k <;> simp at h
  rcases h with rfl | rfl | rfl <;> exact ⟨by decide, _, rfl, rfl⟩

theorem lively_lines_sound : lively.LinesSound where
  unmapped := by decide
  toChannel := by
    intro l m h
    by_cases e : l = 3
    · subst e
      obtain rfl : m = ⟨9, .a⟩ := by
        have : some (⟨9, .a⟩ : Mapping) = some m := h
        exact (Option.some.inj this).symm
      decide
    · have : (lively.line l).mapping = none := by
        clear h
        revert l
        decide
      rw [this] at h
      cases h
  toLine := by
    intro ch l h
    rw [lively_channel] at h
    repeat' split at h
    all_goals
      first
      | (subst_vars
         obtain rfl : (3 : LineNo) = l := Option.some.inj h
         exact ⟨⟨9, .a⟩, rfl, rfl⟩)
      | simp [chan, running, Channel.free] at h
  pending := by
    intro ch h
    rw [lively_channel] at h
    repeat' split at h
    all_goals
      first
      | simp [chan, running, Channel.free] at h; done
      | (subst_vars; exact ⟨3, rfl, rfl⟩)

theorem lively_offers_sound : lively.OffersSound := by
  intro e d
  cases d <;> revert e <;> decide

theorem lively_domains_sound : lively.DomainsSound := by
  refine ⟨fun d => ?_, fun d => ?_⟩
  · cases d <;> constructor <;> decide
  · cases d <;> constructor <;> decide

theorem lively_notices_sound : lively.NoticesSound := by
  intro p
  cases p <;> constructor <;> first | decide | exact ⟨rfl, trivial⟩ | trivial

theorem lively_lines_held (e : EngineNo) :
    (lively.poolEngine e).lines = if e = 1 then [2] else [] := by
  revert e; decide

theorem lively_lines_free (n : StagingLine) : n ∈ lively.pool.free ↔ 8 ≤ n.val := by
  show n ∈ (List.finRange 128).drop 8 ↔ _
  rw [List.mem_drop_iff_getElem]
  constructor
  · rintro ⟨i, hi, h⟩
    simp only [List.getElem_finRange, Fin.ext_iff, Fin.val_cast] at h
    omega
  · intro h
    exact ⟨n.val - 8, by simp; omega, by ext; simp; omega⟩

theorem lively_pool_sound : lively.PoolSound where
  freeOnce := (List.nodup_finRange 128).sublist (List.drop_sublist 8 _)
  freeShared n h := by simpa [sharedLine] using (lively_lines_free n).mp h
  heldOnce e := by rw [lively_lines_held]; split <;> decide
  heldApart e f n he hf := by
    rw [lively_lines_held] at he hf
    split at he <;> split at hf <;> simp_all
  heldNotFree e n he := by
    rw [lively_lines_held] at he
    rw [lively_lines_free]
    split at he <;> simp_all
  reserveOwn e n he := by
    rw [lively_lines_held] at he
    split at he <;> simp_all
  accounted n h := .inl ((lively_lines_free n).mpr (by simpa [sharedLine] using h))
  limited := by decide
  most e k h := by
    have he : e = 1 ∨ (lively.poolEngine e).limit = none := by clear h; revert e; decide
    rcases he with rfl | he
    · obtain rfl : (⟨2, false⟩ : LineLimit) = k := Option.some.inj h
      decide
    · rw [he] at h; cases h
  within := by decide
  listed := by decide
  waitingOnce := by decide
  below := by decide

theorem lively_parking_sound : lively.ParkingSound := by
  refine ⟨fun p => ?_, fun p ch => ?_⟩
  · cases p <;> decide
  · cases p <;> revert ch <;> decide

/-- E1 alone is at a unit of `lively`, and no report is on its way. -/
theorem lively_unit (e : EngineNo) :
    (lively.engine e).unit = if e = 1 then some { work 7 .a with readPos := 1 } else none := by
  revert e; decide

theorem lively_reports : lively.wires.reports = [] := rfl

theorem lively_units_sound : lively.UnitsSound where
  program ch ld h := by
    rw [lively_channel] at h
    repeat' split at h
    all_goals
      first
      | (simp [Channel.free] at h; done)
      | (obtain rfl : ⟨blocks, 0x10000, 0x80000, 40⟩ = ld := Option.some.inj h
         refine ⟨by decide, by decide, fun n q => ?_⟩
         obtain rfl : (16 : Nat) = n := Mode.block.inj q
         decide)
  remaining ch h := by
    rw [lively_channel] at h ⊢
    repeat' split at h
    all_goals first | exact absurd h (by decide) | simp_all [Channel.remains, chan, running]
  parked ch h := by
    rw [lively_channel] at h
    repeat' split at h
    all_goals exact absurd h (by decide)
  serving e w h := by
    rw [lively_unit] at h
    split at h
    · obtain rfl : { work 7 .a with readPos := 1 } = w := Option.some.inj h
      exact ⟨by decide, by decide, _, rfl, by decide⟩
    · cases h
  servedOnce e f w x h k _ := by
    rw [lively_unit] at h k
    split at h <;> split at k <;> simp_all
  ended r h := by simp [lively_reports] at h
  endedOnce := List.Pairwise.nil
  unitEnds _ _ _ h := by simp [lively_reports] at h
  stops _ _ _ h := by simp [lively_reports] at h

theorem lively_step : ∃ t, step lively = .next t := ⟨_, rfl⟩

/-- The eligible channels of `lively` are 6, 9 and 10, and they are queued. -/
theorem lively_eligible_queued : lively.EligibleQueued := by
  intro ch h
  rw [lively_channel] at h
  refine ⟨.normal, ?_⟩
  repeat' split at h
  all_goals first | (subst_vars; decide) | exact absurd h (by decide)

theorem witness_RecordsAndQueuesStaySound :
    lively.RecordsSound ∧ lively.EligibleQueued ∧ (∃ t, step lively = .next t) ∧
      (∃ t, exec .dispatch lively = .next t) ∧ ∀ p, Instr.dispatch ≠ .popNotice p :=
  ⟨lively_records_sound, lively_eligible_queued, lively_step, ⟨_, rfl⟩, by simp⟩

theorem witness_LinesAndChannelsStayMutual :
    lively.RecordsSound ∧ lively.LinesSound ∧ ∃ t, step lively = .next t :=
  ⟨lively_records_sound, lively_lines_sound, lively_step⟩

theorem witness_BusesAndUsersStayInStep :
    lively.BusesSound ∧ (∀ d, lively.UsersSound d) ∧ ∃ t, step lively = .next t :=
  ⟨lively_domains_sound.1, lively_domains_sound.2, lively_step⟩

theorem witness_StagingLinesStayPartitioned :
    lively.PoolSound ∧ lively.OffersSound ∧ (∃ t, step lively = .next t) ∧
      (lively.engine 0).phase = .idle ∧
      (lively.engine 1).phase = .running { work 7 .a with readPos := 1 } ∧
      (lively.engine 1).admission.get .b = none :=
  ⟨lively_pool_sound, lively_offers_sound, lively_step, rfl, rfl, rfl⟩

theorem witness_NoticesStayInSequence :
    lively.NoticesSound ∧ lively.RecordsSound ∧ lively.ParkingSound ∧ ∃ t, step lively = .next t :=
  ⟨lively_notices_sound, lively_records_sound, lively_parking_sound, lively_step⟩

theorem witness_UnitsStayInStep :
    lively.RecordsSound ∧ lively.UnitsSound ∧ ∃ t, step lively = .next t :=
  ⟨lively_records_sound, lively_units_sound, lively_step⟩

/-! ### Every command, windows, sessions that are not ONLINE -/

theorem witness_WindowBelongsToItsPort :
    ∃ t, exec (.intenWrite .b 1) (asked online .a (ask 0x20 [5])) = .next t ∧
      (t.port .a).latched.isSome ∧ (online.port .b).latched = none :=
  ⟨_, rfl, rfl, rfl⟩

theorem witness_PortNotOnlineGainsNothing :
    State.reset.online .a = false ∧ ∃ t, exec (.reqAsserted 15) State.reset = .next t :=
  ⟨rfl, _, rfl⟩

/-! ### Checks in order (R3) -/

theorem witness_ChecksComeInOrderAndRefuse :
    ((asked State.reset .a (ask 0x21 [5])).handedOver .a 0x21 (ask 0x21 [5]) [] ∧
      (asked State.reset .a (ask 0x21 [5])).online .a = false) ∧
    ((asked online .a (ask 0x13 [64])).handedOver .a 0x13 (ask 0x13 [64]) [] ∧
      (asked online .a (ask 0x13 [64])).online .a = true ∧ 64 ≤ (ask 0x13 [64]).arg 0) ∧
    ((asked online .a (ask 0x22 [63])).handedOver .a 0x22 (ask 0x22 [63]) [] ∧
      (ask 0x22 [63]).arg 0 = (63 : ChannelNo).val ∧
      ((asked online .a (ask 0x22 [63])).channel 63).owner ≠ some .a) ∧
    ∃ t, exec (.popNotice .a) (asked online .a (ask 0x40 [])) = .next t ∧
      t.wires.answers.get .a = [] ++ [⟨0, .plain .queueEmpty⟩] := by
  refine ⟨by decide, by decide, by decide, _, rfl, rfl⟩

/-- R163: the number is the whole register. -/
theorem test_channel_256_is_bad :
    code (.claim .a) .a (asked online .a (ask 0x10 [256])) = some (.badChannel, 0) := by decide

/-! ### CLAIM and RELEASE -/

theorem witness_ClaimTakesFreeChannel :
    (asked online .a (ask 0x10 [63])).handedOver .a 0x10 (ask 0x10 [63]) [] ∧
      (asked online .a (ask 0x10 [63])).online .a = true ∧
      (ask 0x10 [63]).arg 0 = (63 : ChannelNo).val := by decide

/-- R4: a port's own channel is answered OWNED as well. -/
theorem test_claim_of_own_channel_is_owned :
    code (.claim .a) .a (asked (online.setChannel 9 (chan .a .idle 0)) .a (ask 0x10 [9])) =
      some (.owned, 0) := by decide

/-- Channel 63, READY with a pending trigger from line 15, of Port A. -/
def mapped : State :=
  (online.setLine 15 ⟨.pending, some ⟨63, .a⟩, 0⟩).setChannel 63
    { chan .a .ready 0 with mappedLine := some 15, linePending := true }

theorem witness_ReleaseFreesChannel :
    let s := asked mapped .a (ask 0x11 [63])
    s.handedOver .a 0x11 (ask 0x11 [63]) [] ∧ s.online .a = true ∧
      (ask 0x11 [63]).arg 0 = (63 : ChannelNo).val ∧ (s.channel 63).owner = some .a ∧
      (∀ n, (s.channel 63).mappedLine = some n → (s.line n).mapping = some ⟨63, .a⟩) ∧
      ∀ x ∈ (s.noticeUnit .a).parking, x.channel = 63 → (s.channel 63).state = .posting := by
  decide

theorem test_release_unmaps_the_line :
    ((after (.release .a) (asked mapped .a (ask 0x11 [63]))).line 15).state = .unmapped := by decide

theorem test_release_of_running_is_wrong_state :
    code (.release .a) .a (asked (online.setChannel 9 (running .a 0)) .a (ask 0x11 [9])) =
      some (.wrongState, 0) := by decide

/-! ### LOAD (Table 1-5) -/

/-- The argument block of Table 1-5 for channel 5, with the destination address of Port A's domain. -/
def table15 (dst : Nat) : Latched :=
  ask 0x12 [5, 2 + 2 * 4 + 3 * 256, 0x20000, dst, 200, 16, 0, 1 + 1 * 4 + 1 * 32]

def idle5 : State := online.setChannel 5 { Channel.free with owner := some .a, state := .idle }

theorem test_load_table_1_5_misaligned :
    code (.load .a) .a (asked idle5 .a (table15 0x20102)) = some (.badField, 9) := by decide

theorem test_load_table_1_5_overlap :
    code (.load .a) .a (asked idle5 .a (table15 0x20100)) = some (.badField, 16) := by decide

theorem witness_LoadReportsFirstFailingCheck :
    let s := asked idle5 .a (table15 0x20100)
    (s.handedOver .a 0x12 (table15 0x20100) [] ∧ s.online .a = true ∧
      (table15 0x20100).arg 0 = (5 : ChannelNo).val ∧ (s.channel 5).owner = some .a) ∧
    (s.channel 5).state = .idle ∧ LoadCheckFails (table15 0x20100) 16 ∧
    (∀ m, m < 16 → ¬LoadCheckFails (table15 0x20100) m) ∧
    ¬(((s.setChannel 5 (chan .a .ready 1)).channel 5).state = .idle ∨
      ((s.setChannel 5 (chan .a .ready 1)).channel 5).state = .faulted ∨
      (((s.setChannel 5 (chan .a .ready 1)).channel 5).state = .ready ∧
        ((s.setChannel 5 (chan .a .ready 1)).channel 5).credit = 0 ∧
        ((s.setChannel 5 (chan .a .ready 1)).channel 5).linePending = false)) := by
  refine ⟨by decide, by decide, ?_, ?_, by decide⟩
  · unfold LoadCheckFails RangeCheckFails
    decide
  · unfold LoadCheckFails RangeCheckFails
    intro m hm h
    rcases h with h | h | h | h | h | h | h | h | h | (h | h | h) | h | h | h | h <;>
      first
      | exact absurd h.2 (by decide)
      | omega

/-- With the destination at 0002 0400h every check of Table 1-5 passes. -/
theorem table15_passes (k : Nat) : ¬LoadCheckFails (table15 0x20400) k := by
  unfold LoadCheckFails RangeCheckFails
  intro h
  rcases h with h | h | h | h | h | h | h | h | h | (h | h | h) | h | h | h | h <;>
    exact absurd h.2 (by decide)

theorem witness_LoadReplacesProgram :
    let s := asked idle5 .a (table15 0x20400)
    (s.handedOver .a 0x12 (table15 0x20400) [] ∧ s.online .a = true ∧
      (table15 0x20400).arg 0 = (5 : ChannelNo).val ∧ (s.channel 5).owner = some .a ∧
      (s.channel 5).state = .idle ∧ (s.channel 5).linePending = false) ∧
    ∀ k, ¬LoadCheckFails (table15 0x20400) k :=
  ⟨by decide, table15_passes⟩

/-- Section 1.12: READY with 200 elements remaining at 0002 0400h, not eligible. -/
theorem test_load_table_1_5_taken :
    let c := (after (.load .a) (asked idle5 .a (table15 0x20400))).channel 5
    c.state = .ready ∧ c.loaded.map (fun d => (d.curDst, d.remaining)) = some (0x20400, 200) ∧
      c.eligible = false := by decide

theorem witness_ProgramViewGivesBlockBack :
    ∃ q : Program, loadProgram (table15 0x20400).args = .ok q ∧
      let s := asked (online.setChannel 63 { chan .a .ready 0 with loaded := some ⟨q, 0, 0, 200⟩ }) .a
        (ask 0x13 [63, 1])
      s.handedOver .a 0x13 (ask 0x13 [63, 1]) [] ∧ s.online .a = true ∧
        (ask 0x13 [63, 1]).arg 0 = (63 : ChannelNo).val ∧ (ask 0x13 [63, 1]).arg 1 = 1 ∧
        (s.channel 63).owner = some .a ∧ ∃ x y n, (s.channel 63).loaded = some ⟨q, x, y, n⟩ :=
  ⟨_, rfl, ⟨rfl, rfl⟩, rfl, rfl, rfl, rfl, _, _, _, rfl⟩

/-! ### READ_CHANNEL, QUERY_TABLE and READ_ENGINES -/

/-- A RUNNING channel of Port A with every optional field of Table 10-6 but after-state. -/
def full : Channel :=
  { running .a 15 with
    mappedLine := some 15, linePending := true
    fault := some ⟨.domainReset, .b, 0xFFFFFFFF, 16777214, true⟩ }

theorem witness_ReadChannelShowsRecord :
    let s := fun view => asked (online.setChannel 0 full) .a (ask 0x13 [0, view])
    (s 3).handedOver .a 0x13 (ask 0x13 [0, 3]) [] ∧ (s 3).online .a = true ∧
      (ask 0x13 [0, 3]).arg 0 = (0 : ChannelNo).val ∧ ((s 3).channel 0).credit ≤ 15 ∧
      2 < (ask 0x13 [0, 3]).arg 1 ∧
    (s 2).handedOver .a 0x13 (ask 0x13 [0, 2]) [] ∧ (ask 0x13 [0, 2]).arg 1 = 2 ∧
      ((s 2).channel 0).owner = some .a ∧ ((s 2).channel 0).fault.isSome ∧
    (s 0).handedOver .a 0x13 (ask 0x13 [0, 0]) [] ∧ (ask 0x13 [0, 0]).arg 1 = 0 ∧
      ((s 0).channel 0).loaded.isSome ∧
    (s 1).handedOver .a 0x13 (ask 0x13 [0, 1]) [] ∧ (ask 0x13 [0, 1]).arg 1 = 1 ∧
      ((s 1).channel 0).loaded = some ⟨blocks, 0x10000, 0x80000, 40⟩ ∧
      blocks.mode.blockLength ≤ 255 ∧ blocks.count < 2 ^ 24 ∧
      (idle5.channel 5).owner = some .a ∧ (idle5.channel 5).loaded = none ∧
      (idle5.channel 5).fault = none ∧
    ((asked (online.setChannel 0 full) .b (ask 0x13 [0, 1])).handedOver .b 0x13 (ask 0x13 [0, 1]) [] ∧
      ((s 1).channel 0).owner ≠ some .b) := by decide

/-- Table 10-6, STATUS: RUNNING, owner A, credit 15, line pending, line 15, origin CREDIT, a program
and a fault record. -/
theorem test_status_word :
    ((answered (.readChannel .a) .a (asked (online.setChannel 0 full) .a (ask 0x13 [0]))).map
      fun r => (r.res.row 0).toNat) =
      some (3 + 8 + 32 * 15 + 512 + 1024 * 15 + 2 ^ 14 + 2 ^ 19 + 2 ^ 20 + 2 ^ 21) := by decide

theorem witness_QueryTableMapsFreeAndOwned :
    (asked State.reset .b (ask 0x14 [])).handedOver .b 0x14 (ask 0x14 []) [] ∧
      (asked State.reset .b (ask 0x14 [])).online .b = false ∧
    (asked online .b (ask 0x14 [])).handedOver .b 0x14 (ask 0x14 []) [] ∧
      (asked online .b (ask 0x14 [])).online .b = true := by decide

theorem test_query_table_maps :
    ((answered (.queryTable .a) .a (asked (online.setChannel 33 full) .a (ask 0x14 []))).map
      fun r => (r.res.row 0, r.res.row 1, r.res.row 2, r.res.row 3)) =
      some (0xFFFFFFFF, 0xFFFFFFFD, 0, 2) := by decide

/-- READ_ENGINES of Port A with four parts taken, the pool's on its way, and a second request to the pool
behind the first. -/
def gathering : State :=
  let s := asked online .a (ask 0x15 [])
  let v : EngineView := ⟨.idle, .absent, 0⟩
  { s with
    ports :=
      s.ports.set .a { s.port .a with gather := some ⟨0, .fill 4 (some v), none⟩ }
    wires :=
      { s.wires with
        asks := s.wires.asks.set .a [⟨0, .engine 3⟩, ⟨0, .pool⟩, ⟨1, .pool⟩]
        parts := s.wires.parts.set .a [⟨9, .pool 1⟩, ⟨0, .pool 120⟩, ⟨0, .engine 3 v⟩] } }

theorem witness_ReadEnginesGathersFiveParts :
    gathering.handedOver .a 0x15 (ask 0x15 []) [] ∧
    gathering.wires.asks.get .a = [⟨0, .engine 3⟩] ++ ⟨0, .pool⟩ :: [⟨1, .pool⟩] ∧
    (∀ x ∈ ([⟨0, .engine 3⟩] : List EnginesAsk), x.source ≠ .pool) ∧
    gathering.wires.parts.get .a =
      [⟨9, .pool 1⟩] ++ ⟨0, .pool 120⟩ :: [⟨0, .engine 3 ⟨.idle, .absent, 0⟩⟩] ∧
    (∃ g, (gathering.port .a).gather = some g ∧ (gathering.port .a).latched = some (ask 0x15 []) ∧
      g.cycle = (ask 0x15 []).cycle ∧ (9 : Nat) ≠ g.cycle ∧ (0 : Nat) = g.cycle ∧
      ((g.add (.pool 120)).complete).isSome ∧
      (g.add (.engine 3 ⟨.idle, .absent, 0⟩)).complete = none) := by
  refine ⟨by decide, rfl, by decide, rfl, _, rfl, rfl, rfl, by decide, rfl, rfl, rfl⟩

/-- Table 10-7: FFh for no channel served, and 120 free shared lines at bit 24. -/
theorem test_read_engines_answer :
    (((after (.readEngines .a (.part 1)) gathering).port .a).res.row 0).toNat =
      0xFF * 4 + 120 * 2 ^ 24 := by decide

theorem test_engine_part_hides_other_owner :
    ((lively.engineView .b 1).served, (lively.engineView .a 1).served, (lively.engineView .a 1).linesHeld)
      = (.other, .own 7, 1) := by decide

/-! ### Run queues and START (R14, R28) -/

theorem witness_EligibilityMovesRunQueues :
    lively.RecordsSound ∧
    ((lively.channel 9).eligible = true ∧ (chan .a .idle 0).eligible = false) ∧
    ((lively.channel 8).eligible = false ∧ (chan .a .ready 1).eligible = true) ∧
    (((online.setChannel 9 (chan .a .ready 1)).channel 9).eligible = true ∧
      ((online.setChannel 9 (chan .a .ready 1)).channel 9).loaded.isSome ∧
      ∀ k, (9 : ChannelNo) ∉ (online.setChannel 9 (chan .a .ready 1)).trigger.queue k) :=
  ⟨lively_records_sound, by decide, by decide, by decide, by decide, fun k => by cases k <;> decide⟩

/-- R144: a channel released from parking joins the tail of its class's queue. -/
theorem test_run_queue_join :
    (after (.runQueueJoin 8) (lively.setChannel 8 (chan .a .ready 1))).trigger.normal = [6, 9, 10, 8] := by
  decide

theorem witness_StartAddsOneCredit :
    (asked lively .a (ask 0x20 [8])).RecordsSound ∧
    ((asked lively .a (ask 0x20 [8])).handedOver .a 0x20 (ask 0x20 [8]) [] ∧
      (asked lively .a (ask 0x20 [8])).online .a = true ∧
      (ask 0x20 [8]).arg 0 = (8 : ChannelNo).val ∧ (lively.channel 8).owner = some .a) ∧
    (lively.channel 5).state ∉ [ChannelState.ready, .running, .posting] ∧
    ((lively.channel 6).state = .ready ∧ (lively.channel 6).credit = 15) ∧
    ((lively.channel 8).state = .ready ∧ (lively.channel 8).credit = 0 ∧
      (lively.channel 8).linePending = false ∧ (lively.channel 8).loaded.isSome) ∧
    ((lively.channel 7).state = .running ∧ (lively.channel 7).credit = 14) :=
  ⟨lively_records_sound, by decide, by decide, by decide, by decide, by decide⟩

theorem test_start_at_15_is_credit_full :
    code (.start .a) .a (asked lively .a (ask 0x20 [6])) = some (.creditFull, 0) := by decide

theorem test_start_queues_a_ready_channel :
    (after (.start .a) (asked lively .a (ask 0x20 [8]))).trigger.normal = [6, 9, 10, 8] := by decide

/-! ### ABORT and RESUME (Chapter 7) -/

theorem witness_AbortActsByState :
    let s := asked mapped .a (ask 0x21 [63])
    s.handedOver .a 0x21 (ask 0x21 [63]) [] ∧ s.online .a = true ∧
      (ask 0x21 [63]).arg 0 = (63 : ChannelNo).val ∧ (s.channel 63).owner = some .a ∧
      ((s.channel 63).linePending = true →
        ∃ n, (s.channel 63).mappedLine = some n ∧ (s.line n).state = .pending) := by decide

/-- R128: the line returns to WAITING without ACK. -/
theorem test_abort_in_ready :
    let t := after (.abort .a) (asked mapped .a (ask 0x21 [63]))
    (t.channel 63).state = .idle ∧ (t.line 15).state = .waiting ∧ (t.line 15).acks = 0 := by decide

theorem test_abort_in_running :
    let t := after (.abort .a) (asked lively .a (ask 0x21 [7]))
    (t.channel 7).state = .stopping ∧ t.wires.causes = [⟨7, .abort⟩] ∧
      code (.abort .a) .a (asked lively .a (ask 0x21 [7])) = some (.accepted, 0) := by decide

/-- The example of R132: destination INCREMENT_REWIND at FFFF FFC0h, stopped 4 elements into its
block of 16 elements of 4 bytes. -/
def rewound (dst : Word) : Channel :=
  { chan .a .faulted 0 with
    loaded :=
      some
        ⟨{ blocks with dst := ⟨.b, 0xFFFFFFC0, .incrementRewind⟩ }, 0x10010, dst, 36⟩ }

/-- Channel 63 of Port A is such a channel and RESUME is asked for it. -/
def resuming (dst : Word) : State := asked (online.setChannel 63 (rewound dst)) .a (ask 0x22 [63])

theorem witness_ResumeChecksTheRest :
    (resuming 0xFFFFFFD0).handedOver .a 0x22 (ask 0x22 [63]) [] ∧
      (resuming 0xFFFFFFD0).online .a = true ∧ (ask 0x22 [63]).arg 0 = (63 : ChannelNo).val ∧
      ((resuming 0xFFFFFFD0).channel 63).owner = some .a ∧
      ((resuming 0xFFFFFFD0).channel 63).state = .faulted ∧
    (RangeCheckFails ⟨0, 0, 0x10010⟩ ⟨1, 3, 0xFFFFFFD0⟩ 36 4 16 11 ∧
      ∀ m, m < 11 → ¬RangeCheckFails ⟨0, 0, 0x10010⟩ ⟨1, 3, 0xFFFFFFD0⟩ 36 4 16 m) ∧
    (∀ k, ¬RangeCheckFails ⟨0, 0, 0x10010⟩ ⟨1, 3, 0xFFFFFFC0⟩ 36 4 16 k) ∧
    ((asked lively .a (ask 0x22 [9])).channel 9).state ≠ .faulted := by
  refine ⟨by decide, rfl, by decide, rfl, rfl, ?_, ?_, by decide⟩
  · unfold RangeCheckFails
    decide
  · unfold RangeCheckFails
    intro k h
    rcases h with h | h | h <;> exact absurd h.2 (by decide)

theorem test_resume_of_r132_is_bad_field_11 :
    code (.resume .a) .a (resuming 0xFFFFFFD0) = some (.badField, 11) := by decide

theorem test_resume_at_block_start :
    ((after (.resume .a) (resuming 0xFFFFFFC0)).channel 63).state = .ready := by decide

/-! ### Request lines (Chapter 2) -/

/-- Line 3 is mapped to channel 9 of Port A; `st` is the line's state, `c` the channel. -/
def lined (st : LineState) (c : Channel) : State :=
  (online.setLine 3 ⟨st, some ⟨9, .a⟩, 0⟩).setChannel 9 { c with mappedLine := some 3 }

theorem witness_LinesAreMappedAndUnmapped :
    ((asked State.reset .a (ask 0x28 [16])).handedOver .a 0x28 (ask 0x28 [16]) [] ∧
      (asked State.reset .a (ask 0x28 [16])).online .a = false ∧ 16 ≤ (ask 0x28 [16]).arg 0) ∧
    ((asked online .a (ask 0x28 [15, 64])).handedOver .a 0x28 (ask 0x28 [15, 64]) [] ∧
      (ask 0x28 [15, 64]).arg 0 < 16 ∧ 64 ≤ (ask 0x28 [15, 64]).arg 1) ∧
    ((asked lively .a (ask 0x28 [15, 63])).handedOver .a 0x28 (ask 0x28 [15, 63]) [] ∧
      (ask 0x28 [15, 63]).arg 0 = (15 : LineNo).val ∧
      (ask 0x28 [15, 63]).arg 1 = (63 : ChannelNo).val ∧ (lively.channel 63).owner ≠ some .a) ∧
    ((lively.channel 8).owner = some .a ∧ (lively.line 3).state ≠ .unmapped) ∧
    ((lively.channel 8).owner = some .a ∧ (lively.line 15).state = .unmapped ∧
      (lively.channel 8).mappedLine = none) ∧
    ((asked lively .a (ask 0x29 [16])).handedOver .a 0x29 (ask 0x29 [16]) [] ∧
      16 ≤ (ask 0x29 [16]).arg 0) ∧
    ((asked lively .b (ask 0x29 [3])).handedOver .b 0x29 (ask 0x29 [3]) [] ∧
      (ask 0x29 [3]).arg 0 = (3 : LineNo).val ∧
      ∀ ch, (lively.line 3).mapping ≠ some ⟨ch, .b⟩) ∧
    (lively.line 3).mapping = some ⟨9, .a⟩ := by
  refine ⟨by decide, by decide, by decide, by decide, by decide, by decide, ?_, rfl⟩
  refine ⟨by decide, by decide, fun ch h => ?_⟩
  have h : some (⟨9, .a⟩ : Mapping) = some ⟨ch, .b⟩ := h
  simp at h

/-- R45: a standing request is taken in the happening of MAP_LINE. -/
theorem test_map_line_takes_standing_request :
    let s := { lively with req := lively.req.put 15 true }
    let t := after (.mapLine .a) (asked s .a (ask 0x28 [15, 8]))
    (t.line 15).state = .pending ∧ (t.channel 8).linePending = true ∧
      t.trigger.normal = [6, 9, 10, 8] := by decide

/-- R46: a channel eligible through its line alone leaves its queue. -/
theorem test_unmap_line_drops_the_trigger :
    let t := after (.unmapLine .a) (asked lively .a (ask 0x29 [3]))
    (t.line 3).state = .unmapped ∧ (t.channel 9).mappedLine = none ∧ t.trigger.normal = [6, 10] := by
  decide

theorem witness_WaitingLineTakesTrigger :
    ((lined .waiting (chan .a .ready 0)).line 3).mapping = some ⟨9, .a⟩ ∧
      ((lined .waiting (chan .a .ready 0)).line 3).state = .waiting ∧
      ((lined .waiting (chan .a .ready 0)).channel 9).state ∈
        [ChannelState.ready, .running, .posting] ∧
    ((lined .acking (chan .a .ready 0)).line 3).state ≠ .waiting ∧
    ((lined .waiting (chan .a .idle 0)).channel 9).state ∉
        [ChannelState.ready, .running, .posting] ∧
    (online.line 3).mapping = none ∧ online.req.row 3 = false ∧
    (lively.channel 9).mappedLine = some 3 ∧ (lively.channel 8).mappedLine = none := by decide

/-- Table 2-6, second row. -/
theorem test_req_asserted :
    let t := after (.reqAsserted 3) (lined .waiting (chan .a .ready 0))
    (t.line 3).state = .pending ∧ (t.channel 9).linePending = true ∧ t.trigger.normal = [9] := by
  decide

theorem test_line_channel_able :
    let s := lined .waiting (chan .a .running 0)
    ((after (.lineChannelAble 3) { s with req := s.req.put 3 true }).channel 9).linePending = true := by
  decide

/-- Line 3 SERVING for channel 9, with hand-offs for lines 5 and 3 on their way. -/
def served (req : Bool) : State :=
  let s := lined .serving (running .a 0)
  { s with
    req := s.req.put 3 req
    wires := { s.wires with acks := [⟨5, 1⟩, ⟨3, 9⟩], returns := [⟨5, 1⟩, ⟨3, 9⟩] } }

theorem witness_AcknowledgeHandshake :
    (served true).wires.acks = [⟨5, 1⟩] ++ ⟨3, 9⟩ :: [] ∧
      (∀ w ∈ ([⟨5, 1⟩] : List LineWord), w.line ≠ 3) ∧ ((served true).line 3).state = .serving ∧
      (∃ p, ((served true).line 3).mapping = some ⟨9, p⟩) ∧
      ((served true).setLine 3 ⟨.waiting, some ⟨9, .a⟩, 0⟩ |>.line 3).state ≠ .serving :=
  ⟨rfl, by decide, rfl, ⟨.a, rfl⟩, by decide⟩

/-- R42: ACK stays asserted while REQ is held, and is a single pulse when REQ is already released. -/
theorem test_acknowledge :
    ackLevel (after (.lineAcknowledge 3) (served true)) 3 = true ∧
      ((after (.lineAcknowledge 3) (served false)).line 3).state = .waiting ∧
      ((after (.lineAcknowledge 3) (served false)).line 3).acks = 1 := by decide

/-- R43. -/
theorem test_req_deasserted_ends_acking :
    ((after (.reqDeasserted 3) (lined .acking (running .a 0))).line 3).state = .waiting := by decide

theorem witness_LineReturnsWithoutAcknowledge :
    (served true).wires.returns = [⟨5, 1⟩] ++ ⟨3, 9⟩ :: [] ∧
      (∀ w ∈ ([⟨5, 1⟩] : List LineWord), w.line ≠ 3) ∧ ((served true).line 3).state = .serving ∧
      (∃ p, ((served true).line 3).mapping = some ⟨9, p⟩) ∧
    ((lined .pending (chan .a .idle 0)).line 3).mapping = some ⟨9, .a⟩ ∧
      ((lined .pending (chan .a .idle 0)).line 3).state = .pending ∧
      ((lined .pending (chan .a .idle 0)).channel 9).linePending = false ∧
    ¬((lively.line 3).state = .pending ∧ (lively.channel 9).linePending = false) :=
  ⟨rfl, by decide, rfl, ⟨.a, rfl⟩, rfl, rfl, rfl, by decide⟩

/-- R44: WAITING without ACK, and a standing request is taken again when the channel can take it. -/
theorem test_line_return :
    ((after (.lineReturn 3) (served false)).line 3) = ⟨.waiting, some ⟨9, .a⟩, 0⟩ ∧
      ((after (.lineReturn 3) (served true)).line 3).state = .pending := by decide

/-- R41. -/
theorem test_pending_line_dropped :
    ((after (.linePendingDrop 3) (lined .pending (chan .a .idle 0))).line 3).state = .waiting := by
  decide

/-! ### Dispatch (R32–R35) -/

theorem witness_DispatchStartsUnit :
    (lively.engine 0).phase = .idle ∧ (∀ f, f < (0 : EngineNo) → (lively.engine f).phase ≠ .idle) ∧
      lively.trigger.choose = some .normal ∧ lively.trigger.queue .normal = 6 :: [9, 10] ∧
      (lively.channel 6).owner = some .a ∧
      (lively.channel 6).loaded = some ⟨blocks, 0x10000, 0x80000, 40⟩ := by decide

/-- Table 1-7, dispatch of one of 15 credits, and section 2.8, a dispatch of origin LINE. -/
theorem test_dispatch :
    let t := after .dispatch lively
    let u := after .dispatch { lively with trigger := ⟨[9], [6], [10], 0, 0⟩ }
    (t.channel 6).credit = 14 ∧ (t.engine 0).phase = .running (work 6 .a) ∧
      (t.poolEngine 0).limit = some ⟨2, false⟩ ∧ (u.channel 9).origin = some .line ∧
      (u.line 3).state = .serving ∧ (u.trigger.normalSkip, u.trigger.bulkSkip) = (1, 1) := by decide

theorem witness_ClassChoiceAndSkipCounters :
    (lively.engine 0).phase = .idle ∧
      (lively.trigger.urgent ≠ [] ∨ lively.trigger.normal ≠ [] ∨ lively.trigger.bulk ≠ []) ∧
      (lively.channel 6).owner.isSome ∧ (lively.channel 6).loaded.isSome ∧ lively.LinesSound :=
  ⟨by decide, by decide, rfl, rfl, lively_lines_sound⟩

/-- Table 2-5, dispatches 8, 9 and 10. -/
theorem test_skip_counters_of_table_2_5 :
    (⟨[20], [30], [40], 7, 7⟩ : TriggerUnit).countSkips .urgent = ⟨[20], [30], [40], 8, 8⟩ ∧
      (⟨[20, 21], [30], [40], 8, 8⟩ : TriggerUnit).choose = some .bulk ∧
      (⟨[20, 21], [30], [], 8, 8⟩ : TriggerUnit).countSkips .bulk = ⟨[20, 21], [30], [], 8, 0⟩ ∧
      (⟨[20, 21], [30], [], 8, 0⟩ : TriggerUnit).choose = some .normal := by decide

/-! ### Bus Masters and admission (Chapters 5 and 6) -/

/-- Channel 7 of Port A on E1, its first read offered to the master of domain A, and an aperture 7 of
domain A over its source. -/
def offering : State :=
  (online.setAperture .a 7 ⟨.open, some ⟨0x10000, 1, .readWrite, .self⟩, 0, 1⟩).setEngine 1
    { busy 7 .a with phase := .running { work 7 .a with room := true } }

theorem witness_OffersAreTakenRoundRobin :
    (offering.master .a).state = .open ∧ (offering.master .a).list.length < 16 ∧
      (offering.master .a).admission = none ∧
      (∀ i, i < (1 : EngineNo) →
        (offering.engine ((offering.master .a).lastServed + 1 + i)).offers.get .a = none) ∧
      (offering.engine ((offering.master .a).lastServed + 1 + 1)).offers.get .a = some read0 ∧
      (∃ w, (offering.engine ((offering.master .a).lastServed + 1 + 1)).phase = .running w ∧
        w.owner = .a) ∧
    ∀ e, (online.engine e).offers.get .b = none :=
  ⟨by decide, by decide, by decide, by decide, by decide, ⟨_, rfl, rfl⟩, by decide⟩

/-- Table 6-4: the search starts at the engine after the last served. -/
theorem test_round_robin_of_table_6_4 :
    roundRobin 3 = [0, 1, 2, 3] ∧ roundRobin 1 = [2, 3, 0, 1] ∧
      ((after (.takeOffer .a) offering).master .a).lastServed = 1 := by decide

/-- The request of that offer is on its way. -/
def requesting : State := after (.takeOffer .a) offering

/-- The request, with its one aperture in another state or of other grantees. -/
def requestingWith (st : ApertureState) (g : Grantees) : State :=
  requesting.setAperture .a 7 ⟨st, some ⟨0x10000, 1, .readWrite, g⟩, 0, 1⟩

/-- No record of these states but number 7 is anything but CLOSED. -/
theorem others_closed (st : ApertureState) (g : Grantees) (i : ApertureNo) (h : i ≠ 7) :
    ((requestingWith st g).aperture .a i).state = .closed := by
  cases st <;> cases g <;> revert i <;> decide

theorem witness_AdmissionLooksForAnAperture :
    requesting.wires.aperture.get .a = .request .read 0x10000 32 .a :: [] ∧
    ((requesting.aperture .a 7).state = .open ∧ ∃ g, (requesting.aperture .a 7).grant = some g ∧
      g.base.toNat ≤ (0x10000 : Word).toNat ∧
      (0x10000 : Word).toNat + 32 ≤ g.base.toNat + g.pages * 4096 ∧ g.rights = .readWrite ∧
      g.grantees = .self) ∧
    (∀ j, j < (7 : ApertureNo) → (requesting.aperture .a j).state ≠ .open) ∧
    ((requestingWith .draining .self).wires.aperture.get .a = .request .read 0x10000 32 .a :: [] ∧
      (∀ i, ((requestingWith .draining .self).aperture .a i).state ≠ .open) ∧
      ((requestingWith .draining .self).aperture .a 7).state = .draining) ∧
    ((∀ i, ((requestingWith .closed .self).aperture .a i).state ≠ .open) ∧
      ∀ i, ((requestingWith .closed .self).aperture .a i).state ≠ .draining) := by
  refine ⟨rfl, ⟨rfl, _, rfl, by decide, by decide, rfl, rfl⟩, by decide, ⟨rfl, ?_, rfl⟩, ?_, ?_⟩
  all_goals
    intro i h
    by_cases e : i = 7
    · subst e
      exact absurd h (by decide)
    · rw [others_closed _ _ i e] at h
      cases h

/-- R97, R98: admitted with one user more, or refused by kind. -/
theorem test_admission_request :
    (after (.admissionRequest .a) requesting).wires.admissions.get .a = some (.admitted 7) ∧
      ((after (.admissionRequest .a) requesting).aperture .a 7).users = 1 ∧
      (after (.admissionRequest .a) (requestingWith .draining .self)).wires.admissions.get .a =
        some (.refused .revoked) ∧
      (after (.admissionRequest .a) (requestingWith .open .peer)).wires.admissions.get .a =
        some (.refused .denied) := by decide

/-- E1 RUNNING (or STOPPING) with read 0 and write 0 outstanding, holding line 8, and a word on its way
from the master of domain A behind a word for E2. -/
def owed (g : Engine) (b : EngineWordBody) : State :=
  let s := online.setEngine 1 { g with outstanding := [⟨.a, read0⟩, ⟨.a, write0⟩] }
  { s.setPoolEngine 1 ⟨[⟨0, 8⟩], some ⟨2, false⟩, .atLimit⟩ with
    wires := { s.wires with engineWords := s.wires.engineWords.set .a [⟨2, .error read0⟩, ⟨1, b⟩] } }

/-- The answer to that request is on its way: admitted, or refused; marked reset or not. -/
def answering (r : AdmissionReply) (marked : Bool) (g : Engine) : State :=
  { (offering.setEngine 1 { g with admission := g.admission.set .a (some read0) }).setMaster .a
      { BusMaster.reset with lastServed := 1, admission := some ⟨1, read0, .a, marked⟩ } with
    wires := { State.reset.wires with admissions := ⟨some r, none⟩ } }

theorem witness_AdmissionAnswerIssuesOrReturns :
    (∀ r ∈ [AdmissionReply.admitted 7, .refused .denied], ∀ marked : Bool,
      let s := answering r marked (busy 7 .a)
      s.wires.admissions.get .a = some r ∧
        (s.master .a).admission = some ⟨1, read0, .a, marked⟩ ∧ (s.master .a).state = .open ∧
        (s.engine 1).phase = .running (work 7 .a)) ∧
    ((answering (.admitted 7) false
        { busy 7 .a with phase := .stopping (work 7 .a) .abort }).engine 1).phase =
      .stopping (work 7 .a) .abort ∧
    ((owed (busy 7 .a) (.error read0)).poolEngine 1).held = [] ++ ⟨(0 + (0 * 4 + 31)) / 32, 8⟩ :: [] ∧
      (work 7 .a).src.start.toNat % 32 = 0 ∧ write0.dir = .write ∧ 31 < write0.length := by
  refine ⟨?_, rfl, rfl, by decide⟩
  intro r h marked
  simp only [List.mem_cons, List.not_mem_nil, or_false] at h
  rcases h with rfl | rfl <;> cases marked <;> exact ⟨rfl, rfl, rfl, rfl⟩

/-- R110, R111: issued with the deadline of the reset limit; marked reset, released instead. -/
theorem test_admission_answer :
    let t := after (.admissionAnswer .a) (answering (.admitted 7) false (busy 7 .a))
    let u := after (.admissionAnswer .a) (answering (.admitted 7) true (busy 7 .a))
    (t.master .a).list = [⟨.outstanding, 1, read0, 7, some 1000, []⟩] ∧
      (t.engine 1).outstanding = [⟨.a, read0⟩] ∧ (u.master .a).list = [] ∧
      u.wires.aperture.get .a = [.userEnd 7] ∧
      (u.wires.offersBack.get .a).row 1 = some .returned := by decide

/-- Table 6-5 before the expiry: entries of E1, E0, E1 and E3. -/
def table65 : State :=
  online.setMaster .b
    { BusMaster.reset with
      list :=
        [⟨.outstanding, 1, ⟨.read, 0, 0x100, 32, 0, 8⟩, 2, some 500, []⟩,
          ⟨.outstanding, 0, ⟨.write, 0, 0x200, 4, 0, 1⟩, 0, some 600, [1, 2, 3, 4]⟩,
          ⟨.outstanding, 1, ⟨.read, 1, 0x120, 32, 8, 8⟩, 2, some 700, []⟩,
          ⟨.outstanding, 3, ⟨.write, 0, 0x300, 4, 0, 1⟩, 0, some 800, [5, 6, 7, 8]⟩] }

/-- Table 6-5 after it. -/
def expired65 : State := after (.responseLimitExpiry .b 0) table65

theorem witness_ResponseAnswersOldestEntry :
    (table65.master .a).list = [] ∧
    (∃ x rest, (table65.master .b).list = x :: rest ∧ x.status = .outstanding ∧ x.txn.dir = .read) ∧
    (∃ x rest, ((table65.setMaster .b
        { BusMaster.reset with list := (table65.master .b).list.drop 3 }).master .b).list = x :: rest ∧
      x.status = .outstanding ∧ x.txn.dir = .write) ∧
    ∃ x rest, (expired65.master .b).list = x :: rest ∧ x.status = .stale :=
  ⟨rfl, ⟨_, _, rfl, rfl, rfl⟩, ⟨_, _, rfl, rfl, rfl⟩, ⟨_, _, rfl, rfl⟩⟩

/-- Table 6-5, third row: a late response leaves 3 STALE entries and ends a user of aperture 2. -/
theorem test_late_response_of_table_6_5 :
    let t := after (.busResponse .b .error) expired65
    (t.master .b).stale = 3 ∧ (t.master .b).state = .recovering ∧
      t.wires.aperture.get .b = [.userEnd 2] ∧
      t.wires.engineWords.get .b = expired65.wires.engineWords.get .b := by decide

theorem witness_ExpiryFailsTheWholeList :
    (∃ x, (table65.master .b).list[0]? = some x ∧ x.status = .outstanding ∧ x.deadline = some 500) ∧
    ∃ x, (expired65.master .b).list[3]? = some x ∧ x.status = .stale :=
  ⟨⟨_, rfl, rfl, rfl⟩, ⟨_, rfl, rfl⟩⟩

/-- Section 6.8: own to E1 for both its reads, collateral to E0 and E3, nothing to E2. -/
theorem test_expiry_of_section_6_8 :
    (expired65.wires.engineWords.get .b).map (fun w => w.engine) = [0, 1, 3] ∧
      (expired65.wires.engineWords.get .b)[1]? =
        some ⟨1, .failure (.timeoutOwn ⟨.read, 0, 0x100, 32, 0, 8⟩)
          [⟨.read, 0, 0x100, 32, 0, 8⟩, ⟨.read, 1, 0x120, 32, 8, 8⟩]⟩ ∧
      (expired65.master .b).state = .recovering ∧ (expired65.master .b).stale = 4 := by decide

/-- Domain B's master recovering, with CLEAR_BUS asked and an abandonment directed. -/
def clearing65 : State :=
  let s := asked expired65 .b (ask 0x39 [])
  { s with
    wires :=
      { s.wires with
        directions := s.wires.directions.set .b { Directions.none with abandon := 1 } } }

theorem witness_ClearedAndAbandonedBuses :
    (clearing65.handedOver .b 0x39 (ask 0x39 []) [] ∧ clearing65.online .b = true ∧
      (clearing65.master .b).state = .recovering) ∧
    ((asked online .b (ask 0x39 [])).handedOver .b 0x39 (ask 0x39 []) [] ∧
      (online.master .b).state = .open) ∧
    ((asked State.reset .b (ask 0x39 [])).handedOver .b 0x39 (ask 0x39 []) [] ∧
      (asked State.reset .b (ask 0x39 [])).online .b = false) ∧
    (clearing65.wires.directions.get .b).abandon = 0 + 1 := by decide

/-- Table 6-5, last row, with all four entries still on the list: their number in RES1. -/
theorem test_clear_bus :
    let t := after (.clearBus .b) clearing65
    (t.master .b).list = [] ∧ (t.master .b).state = .open ∧
      t.wires.aperture.get .b = [.userEnd 2, .userEnd 0, .userEnd 2, .userEnd 0] ∧
      (answered (.clearBus .b) .b clearing65).map (fun r => (r.res.row 1).toNat) = some 4 := by decide

/-- R118: OUTSTANDING entries fail with DOMAIN_RESET, STALE ones have no engine to tell. -/
theorem test_bus_abandon :
    let s := { table65 with wires := clearing65.wires }
    let told := fun s : State =>
      ((after (.busAbandon .b) s).wires.engineWords.get .b).length -
        (s.wires.engineWords.get .b).length
    told s = 3 ∧ told clearing65 = 0 ∧
      ((after (.busAbandon .b) s).wires.aperture.get .b).length = 4 := by decide

theorem witness_ResponseLimitIsSet :
    ((asked State.reset .a (ask 0x38 [65535])).handedOver .a 0x38 (ask 0x38 [65535]) [] ∧
      (asked State.reset .a (ask 0x38 [65535])).online .a = false) ∧
    ((asked online .a (ask 0x38 [65536])).handedOver .a 0x38 (ask 0x38 [65536]) [] ∧
      (asked online .a (ask 0x38 [65536])).online .a = true ∧ 65535 < (ask 0x38 [65536]).arg 0) ∧
    ((asked online .a (ask 0x38 [65535])).handedOver .a 0x38 (ask 0x38 [65535]) [] ∧
      (ask 0x38 [65535]).arg 0 ≤ 65535) := by decide

/-- R112: the previous limit, 1000 after reset, in RES1. -/
theorem test_set_response_limit :
    ((after (.setResponseLimit .a) (asked online .a (ask 0x38 [0]))).master .a).limit = 0 ∧
      (answered (.setResponseLimit .a) .a (asked online .a (ask 0x38 [0]))).map
        (fun r => (r.res.row 1).toNat) = some 1000 := by decide

/-! ### Transfer Engines (Chapter 3) -/

/-- The source side of Table 3-7: 20 elements of 4 bytes from 0004 0004h. -/
def side37 : Side := ⟨.b, .increment, 0x40004⟩

/-- Table 3-8. -/
theorem test_reads_of_table_3_8 :
    side37.txnCount 4 20 = 3 ∧ side37.txn .read 4 20 0 = ⟨.read, 0, 0x40004, 28, 0, 7⟩ ∧
      side37.txn .read 4 20 1 = ⟨.read, 1, 0x40020, 32, 7, 8⟩ ∧
      side37.txn .read 4 20 2 = ⟨.read, 2, 0x40040, 20, 15, 5⟩ := by decide

/-- Section 3.8: 20 writes of 4 bytes at 0010 0000h, and the source reported at 0004 0054h. -/
theorem test_fixed_side_of_section_3_8 :
    (⟨.a, .fixed, 0x100000⟩ : Side).txnCount 4 20 = 20 ∧
      (⟨.a, .fixed, 0x100000⟩ : Side).txn .write 4 20 19 = ⟨.write, 19, 0x100000, 4, 19, 1⟩ ∧
      side37.addressAfter 4 20 = 0x40054 := by decide

theorem witness_TransactionsTileTheUnit :
    (1 ≤ 1 ∧ side37.start.toNat % ElementSize.four.bytes = 0 ∧
      ∀ i : Nat, i < 1 → (0 : Int) ≤ 0x40004 + i * 4 ∧ (0x40004 : Int) + i * 4 + 4 ≤ 4294967296) ∧
    (16777215 ≤ 16777215 ∧ (0 : Word).toNat % ElementSize.one.bytes = 0 ∧
      ∀ i : Nat, i < 16777215 → (0 : Int) ≤ 0 + i * 1 ∧ (0 : Int) + i * 1 + 1 ≤ 4294967296) := by
  refine ⟨by decide, ⟨by decide, by decide, fun i h => ?_⟩⟩
  omega

/-- 32 bytes of data, 0 to 31. -/
def data32 : List Byte := (List.range 32).map (BitVec.ofNat 8 ·)

def stopped (c : StopCause) : Engine := { busy 7 .a with phase := .stopping (work 7 .a) c }

/-- The hypotheses about a word on its way are met. -/
theorem owed_word (g : Engine) (b : EngineWordBody) :
    (owed g b).wires.engineWords.get .a = [⟨2, .error read0⟩] ++ ⟨1, b⟩ :: [] ∧
      ∀ x ∈ ([⟨2, .error read0⟩] : List EngineWord), x.engine ≠ 1 :=
  ⟨rfl, by decide⟩

theorem witness_ReadOkayFillsStaging :
    read0.dir = .read ∧ ((owed (busy 7 .a) (.okay read0 data32)).engine 1).phase = .running (work 7 .a) ∧
      data32.length = read0.length ∧
      ((owed (busy 7 .a) (.okay read0 data32)).poolEngine 1).lineOf
        (((work 7 .a).src.offset + read0.first * (work 7 .a).size.bytes) / 32) = some 8 := by decide

/-- R59, R77: the bytes lie at their places, and write 0 becomes ready. -/
theorem test_read_okay :
    let t := after (.readResponseOkay .a 1) (owed (busy 7 .a) (.okay read0 data32))
    ((t.pool.data.row 8).row 31, (t.pool.data.row 9).row 0) = (31, 0) ∧
      (t.engine 1).outstanding = [⟨.a, write0⟩] ∧
      (t.engine 1).offers.get .b = some write0 := by decide

theorem witness_WriteOkayConfirmsAndEndsUnit :
    write0.dir = .write ∧
    ((owed (busy 7 .a) (.okay write0 [])).engine 1).phase = .running (work 7 .a) ∧
      (work 7 .a).confirmed + write0.elems < (work 7 .a).elements ∧
    ({ work 7 .a with confirmed := 8 }).elements ≤ { work 7 .a with confirmed := 8 }.confirmed + write0.elems ∧
    ((owed { busy 7 .a with phase := .running { work 7 .a with confirmed := 8 } }
        (.okay write0 [])).engine 1).phase = .running { work 7 .a with confirmed := 8 } := by decide

/-- R60, R61, R82, R84: 8 of 16 elements free line 8, and the request that stood AT_LIMIT takes a
reserve line; with all 16 the unit ends at 0001 0040h. -/
theorem test_write_okay :
    let t := after (.writeResponseOkay .a 1) (owed (busy 7 .a) (.okay write0 []))
    let u := after (.writeResponseOkay .a 1)
      (owed { busy 7 .a with phase := .running { work 7 .a with confirmed := 8 } } (.okay write0 []))
    (t.poolEngine 1).lines = [2] ∧ t.wires.reports = [] ∧ (u.engine 1).phase = .idle ∧
      u.wires.reports = [⟨7, .unitEnd ⟨0x10040, 0x80040, 16⟩ .credit⟩] := by decide

/-- E1 RUNNING with read 0 under admission at the master of domain A, the offer on its way back. -/
def referred (g : Engine) (w : OfferWord) : State :=
  (online.setEngine 1 { g with admission := g.admission.set .a (some read0) }).setOfferBack .a 1 (some w)

theorem witness_RunningEngineFaults :
    (((referred (busy 7 .a) (.refused .denied)).engine 1).phase = .running (work 7 .a) ∧
      ((referred (busy 7 .a) (.refused .denied)).wires.offersBack.get .a).row 1 =
        some (.refused .denied) ∧
      ((referred (busy 7 .a) (.refused .denied)).engine 1).admission.get .a = some read0) ∧
    ∀ b ∈ ([.error read0, .failure .domainReset [read0, write0]] : List EngineWordBody),
      ((owed (busy 7 .a) b).engine 1).phase = .running (work 7 .a) := by decide

/-- R63, R67: the record names the refused transaction; with nothing owed the stop ends at once. -/
theorem test_admission_refusal :
    (after (.admissionRefusal .a 1) (referred (busy 7 .a) (.refused .revoked))).wires.reports =
      [⟨7, .faulted⟩,
        ⟨7, .stop ⟨0x10000, 0x80000, 0⟩ (.fault ⟨.apertureRevoked, .a, 0x10000, 0, false⟩)⟩] := by
  decide

/-- R64: WRITE_ERROR for a write, with read 0 still owed. -/
theorem test_response_error :
    let t := after (.responseError .a 1) (owed (busy 7 .a) (.error write0))
    (t.engine 1).phase =
        .stopping (work 7 .a) (.fault ⟨.writeError, .a, 0x80000, 0, false⟩) ∧
      (t.engine 1).outstanding = [⟨.a, read0⟩] ∧ (t.poolEngine 1).request = .none := by decide

/-- R65: a collateral failure names the oldest transaction failed. -/
theorem test_transaction_failure :
    ((after (.transactionFailure .a 1)
      (owed (busy 7 .a) (.failure .timeoutCollateral [write0, read0]))).wires.reports) =
      [⟨7, .faulted⟩,
        ⟨7, .stop ⟨0x10000, 0x80000, 0⟩ (.fault ⟨.timeout, .a, 0x80000, 0, true⟩)⟩] := by decide

theorem witness_StoppingEngineAbsorbs :
    (∀ b ∈ ([.okay read0 data32, .okay write0 [], .error read0, .failure .domainReset [write0]] :
        List EngineWordBody),
      ((owed (stopped .abort) b).engine 1).phase = .stopping (work 7 .a) .abort) ∧
    ((referred (busy 7 .a) .returned).wires.offersBack.get .a).row 1 = some .returned ∧
      ((referred (busy 7 .a) .returned).engine 1).phase = .running (work 7 .a) ∧
    ((referred (stopped .abort) (.refused .denied)).wires.offersBack.get .a).row 1 =
        some (.refused .denied) ∧
      ((referred (stopped .abort) (.refused .denied)).engine 1).phase =
        .stopping (work 7 .a) .abort ∧
      ((referred (stopped .abort) (.refused .denied)).engine 1).admission.get .a = some read0 := by
  decide

/-- Table 3-11: a discarded OKAY confirms nothing. -/
theorem test_stopping_write_okay_is_discarded :
    ((after (.writeResponseOkay .a 1) (owed (stopped .abort) (.okay write0 []))).engine 1).phase =
      .stopping (work 7 .a) .abort := by decide

/-- R110: the offer stands again when the engine is RUNNING. -/
theorem test_offer_returned :
    ((after (.offerReturned .a 1)
      (referred { busy 7 .a with phase := .running { work 7 .a with room := true } }
        .returned)).engine 1).offers.get .a = some read0 := by decide

/-- A stop cause for channel 7 on its way behind one for channel 3. -/
def caused (g : Engine) (c : SentCause) : State :=
  { online.setEngine 1 g with
    wires := { State.reset.wires with causes := [⟨3, .abort⟩, ⟨7, c⟩] } }

theorem witness_StopCausesEndInStopReports :
    ((caused (busy 7 .a) .abort).wires.causes = [⟨3, .abort⟩] ++ ⟨7, .abort⟩ :: [] ∧
      ∀ x ∈ ([⟨3, .abort⟩] : List CauseWord), x.channel ≠ 7) ∧
    ((caused (busy 7 .a) .abort).engine 1).phase = .running (work 7 .a) ∧
      (work 7 .a).channel = 7 ∧ ((caused (busy 7 .a) .abort).engine 0).phase = .idle ∧
      ((caused (busy 7 .a) .abort).engine 1).owesNothing = true ∧
    ((caused { busy 7 .a with outstanding := [⟨.a, read0⟩] } .teardown).engine 1).owesNothing = false ∧
    ((caused (stopped .abort) .teardown).engine 1).phase = .stopping (work 7 .a) .abort ∧
      ((caused (stopped .abort) .teardown).engine 1).owesNothing = true ∧
    ∀ e, ((caused Engine.idle .abort).engine e).phase = .idle := by decide

/-- R68, R72: nothing owed, so the stop report follows at once. -/
theorem test_stop_cause_abort :
    (after (.stopCauseAbort 7) (caused (busy 7 .a) .abort)).wires.reports =
      [⟨7, .stop ⟨0x10000, 0x80000, 0⟩ .abort⟩] := by decide

/-- R69, R70: TEARDOWN replaces a fault and its record. -/
theorem test_stop_cause_teardown :
    (after (.stopCauseTeardown 7)
      (caused (stopped (.fault ⟨.readError, .a, 0x10000, 0, false⟩)) .teardown)).wires.reports =
      [⟨7, .stop ⟨0x10000, 0x80000, 0⟩ .teardown⟩] := by decide

/-! ### Staging Pool (Chapter 4) -/

/-- E1 asks for room: the lines it holds, its limit, and how many shared lines are free. -/
def pooled (held : List HeldLine) (k : LineLimit) (free : List StagingLine) : State :=
  let s := online.setEngine 1 (busy 7 .a)
  s.setPool { s.pool with engines := s.pool.engines.put 1 ⟨held, some k, .none⟩, free := free }

theorem witness_RoomIsGivenByCase :
    (∀ held ∈ ([[], [⟨0, 2⟩], [⟨0, 2⟩, ⟨1, 3⟩]] : List (List HeldLine)),
      let s := pooled held ⟨2, false⟩ [8]
      (s.engine 1).phase = .running (work 7 .a) ∧ (work 7 .a).readPos < (work 7 .a).reads ∧
        (work 7 .a).room = false ∧ (s.poolEngine 1).limit = some ⟨2, false⟩ ∧
        (s.poolEngine 1).request = .none) ∧
    ((work 7 .a).src.step = .increment ∧
      (∃ h ∈ (pooled [⟨0, 2⟩, ⟨1, 3⟩] ⟨32, true⟩ [8]).poolEngine 1 |>.held, h.line.val = 2 * 1) ∧
      (∃ h ∈ (pooled [⟨0, 2⟩, ⟨1, 3⟩] ⟨32, true⟩ [8]).poolEngine 1 |>.held, h.line.val = 2 * 1 + 1)) ∧
    (({ work 7 .a with src := ⟨.a, .fixed, 0x10000⟩, readPos := 1 } : Work).src.firstElement 4 1 * 4)
        % 32 ≠ 0 := by decide

/-- Table 4-5: with both reserves held E3 takes a shared line at 60 free and waits at 59. -/
theorem test_fair_room_of_table_4_5 :
    let free := fun n => (State.reset.pool.free.take n)
    let held : List HeldLine := [⟨0, 2⟩, ⟨1, 3⟩]
    ((after (.roomRequest 1) (pooled held ⟨32, true⟩ (free 60))).poolEngine 1).held.length = 3 ∧
      (after (.roomRequest 1) (pooled held ⟨32, true⟩ (free 59))).pool.waiting = [1] ∧
      ((after (.roomRequest 1) (pooled held ⟨32, true⟩ (free 59))).poolEngine 1).request = .listed := by
  decide

/-- Table 4-4: the third request of an engine of DEPTH_2 waits AT_LIMIT. -/
theorem test_room_at_limit_of_table_4_4 :
    ((after (.roomRequest 1) (pooled [⟨0, 2⟩, ⟨1, 3⟩] ⟨2, false⟩ [8])).poolEngine 1).request =
      .atLimit := by decide

theorem witness_FreedLinesAreHandedOver :
    ((pooled [] ⟨2, false⟩ [8]).setPool
        { (pooled [] ⟨2, false⟩ [8]).pool with waiting := [1] }).pool.waiting = [] ++ 1 :: [] ∧
    (pooled [] ⟨2, false⟩ [8]).pool.waiting = [] ∧
    ((owed (busy 7 .a) (.error read0)).engine 1).phase = .running (work 7 .a) ∧
      ⟨0, 8⟩ ∈ ((owed (busy 7 .a) (.error read0)).poolEngine 1).held ∧
      (∀ h ∈ ((owed (busy 7 .a) (.error read0)).poolEngine 1).held,
        ¬min ((work 7 .a).elements * 4) (32 * (h.unitLine + 1) - (work 7 .a).src.offset) ≤
          (work 7 .a).confirmed * 4) ∧
      min ((work 7 .a).elements * 4) (32 * (0 + 1) - (work 7 .a).src.offset) ≤ 8 * 4 ∧
    (online.engine 0).phase = .idle ∧
    ((caused (stopped .abort) .abort).engine 1).owesNothing = true ∧
    ((owed (stopped .abort) (.error read0)).engine 1).owesNothing = false ∧
    (((owed (busy 7 .a) (.error read0)).poolEngine 1).request = .atLimit ∧
      ((owed (busy 7 .a) (.error read0)).poolEngine 1).limit = some ⟨2, false⟩ ∧
      ((owed (busy 7 .a) (.error read0)).poolEngine 1).held.length < 2 ∧
      ∀ h ∈ ((owed (busy 7 .a) (.error read0)).poolEngine 1).held, h.line.val ≠ 2 * 1) ∧
    ((pooled [⟨0, 2⟩, ⟨1, 3⟩] ⟨4, false⟩ [8]).poolEngine 1).request = .none ∧
    let x := (pooled [] ⟨4, false⟩ [8]).setPoolEngine 1 ⟨[⟨1, 3⟩], some ⟨4, false⟩, .listed⟩
    x.poolEngine 1 = ⟨[⟨1, 3⟩], some ⟨4, false⟩, .listed⟩ ∧
      (∀ h ∈ (x.poolEngine 1).held, h.line.val ≠ 2 * 1) ∧
    let y := (pooled [] ⟨4, false⟩ [8]).setPoolEngine 1 ⟨[⟨0, 8⟩], some ⟨4, false⟩, .listed⟩
    (y.engine 1).phase = .running (work 7 .a) ∧ (y.poolEngine 1).request = .listed ∧
      (y.poolEngine 1).limit = some ⟨4, false⟩ ∧
      ∀ h ∈ (y.poolEngine 1).held, h.line.val ≠ 2 * 1 ∧ h.line.val ≠ 2 * 1 + 1 := by decide

/-- R82, R83: a line wholly confirmed joins the tail of the free list. -/
theorem test_confirmed_bytes :
    let s := online.setEngine 1 { busy 7 .a with phase := .running { work 7 .a with confirmed := 8 } }
    (after (.confirmedBytes 1)
      (s.setPool
        { s.pool with
          engines := s.pool.engines.put 1 ⟨[⟨0, 8⟩, ⟨1, 9⟩], some ⟨2, false⟩, .none⟩
          free := [10] })).pool.free = [10, 8] := by decide

/-- R72, R85. -/
theorem test_line_release :
    let t := after (.lineRelease 1)
      ((caused (stopped .abort) .abort).setPoolEngine 1 ⟨[⟨0, 2⟩], some ⟨2, false⟩, .none⟩)
    (t.poolEngine 1) = PoolEngine.idle ∧ (t.engine 1).phase = .idle := by decide

/-! ### Apertures (Chapter 5) -/

/-- OPEN_APERTURE of aperture 7 of domain A by Port A. -/
def opening (base pages rights grantees : Nat) : Latched := ask 0x30 [0, 7, base, pages, rights, grantees]

theorem witness_AperturesOpenAndShow :
    ((asked online .a (opening 0xFFFFF000 1 3 3)).handedOver .a 0x30 (opening 0xFFFFF000 1 3 3) [] ∧
      online.online .a = true ∧ (opening 0xFFFFF000 1 3 3).arg 0 = domainValue .a ∧
      (opening 0xFFFFF000 1 3 3).arg 1 = (7 : ApertureNo).val ∧
      (online.aperture .a 7).state = .closed ∧
      ((opening 0xFFFFF000 1 3 3).arg 2 % 4096 = 0 ∧ (opening 0xFFFFF000 1 3 3).arg 3 = 1 ∧
        (opening 0xFFFFF000 1 3 3).arg 2 + (opening 0xFFFFF000 1 3 3).arg 3 * 4096 = 2 ^ 32)) ∧
    (2 ^ 32 < (opening 0xFFFFF000 2 3 3).arg 2 + (opening 0xFFFFF000 2 3 3).arg 3 * 4096 ∧
      262144 < (opening 0 262145 3 3).arg 3 ∧ (opening 0x800 1 3 3).arg 2 % 4096 ≠ 0 ∧
      3 < (opening 0 1 4 3).arg 4 ∧ (opening 0 1 3 0).arg 5 = 0) ∧
    ((asked State.reset .a (ask 0x30 [1])).online .a = false ∧ (ask 0x30 [1]).arg 0 < 2 ∧
      8 ≤ (ask 0x30 [1, 8]).arg 1 ∧ (ask 0x30 [1, 7]).arg 0 ≠ domainValue .a ∧
      (lively.aperture .a 2).state ≠ .closed) ∧
    ((asked lively .b (ask 0x32 [0, 2])).handedOver .b 0x32 (ask 0x32 [0, 2]) [] ∧
      lively.online .b = true ∧ (ask 0x32 [0, 2]).arg 0 = domainValue .a ∧
      (ask 0x32 [0, 2]).arg 1 = (2 : ApertureNo).val ∧ (lively.aperture .a 2).users ≤ 16 ∧
      (lively.aperture .a 2).state ≠ .closed ∧ (lively.aperture .a 2).grant.isSome ∧
      (∀ g, (lively.aperture .a 2).grant = some g → g.pages ≤ 262144) ∧
      (online.aperture .a 2).grant = none ∧ Port.b ≠ Port.a) := by decide

/-- R92: generation 1 at the first opening, and APERTURE_OFFERED to a peer that is a grantee. -/
theorem test_open_aperture :
    let t := after (.openAperture .a) (asked online .a (opening 0xFFFFF000 1 3 2))
    (t.aperture .a 7).state = .open ∧ (t.aperture .a 7).generation = 1 ∧
      t.wires.postings.get .b = [.apertureOffered .a 7 1 0xFFFFF000 1 .readWrite] := by decide

/-- R91: one page too many is check 3. -/
theorem test_open_aperture_past_the_end :
    code (.openAperture .a) .a (asked online .a (opening 0xFFFFF000 2 3 3)) = some (.badField, 3) := by
  decide

/-- Table 10-8: the own port's view of an OPEN record of generation 1 with one user, READ, SELF; its
peer's; and a grantee's view of a DRAINING record. -/
theorem test_query_aperture :
    (answered (.queryAperture .a) .a (asked lively .a (ask 0x32 [0, 2]))).map
        (fun r => (r.res.row 0).toNat) =
      some (1 + 4 + 2 ^ 10 + 2 ^ 11 + 2 ^ 16 + 2 ^ 17 + 2 ^ 19 + 2 ^ 21 + 2 ^ 22) ∧
    (answered (.queryAperture .b) .b (asked lively .b (ask 0x32 [0, 2]))).map
        (fun r => (r.res.row 0).toNat) = some 1 ∧
    (answered (.queryAperture .b) .b
        (asked (lively.setAperture .a 2 ⟨.draining, some ⟨0x10000, 1, .read, .both⟩, 1, 1⟩) .b
          (ask 0x32 [0, 2]))).map (fun r => (r.res.row 0).toNat) =
      some (2 + 4 + 2 ^ 10 + 2 ^ 17 + 2 ^ 22) := by decide

/-- Aperture 2 of domain A in a state with so many users, the end of one on its way. -/
def draining (st : ApertureState) (users : Nat) : State :=
  let s := lively.setAperture .a 2 ⟨st, some ⟨0x10000, 1, .read, .both⟩, users, 1⟩
  { s with wires := { s.wires with aperture := s.wires.aperture.set .a [.userEnd 2] } }

theorem witness_AperturesDrainAndClose :
    ((asked (draining .open 0) .a (ask 0x31 [0, 2])).handedOver .a 0x31 (ask 0x31 [0, 2]) [] ∧
      (draining .open 0).online .a = true ∧ (ask 0x31 [0, 2]).arg 0 = domainValue .a ∧
      (ask 0x31 [0, 2]).arg 1 = (2 : ApertureNo).val ∧
      ((draining .open 0).aperture .a 2).state = .open ∧
      ((draining .open 0).aperture .a 2).users = 0) ∧
    0 < ((draining .open 1).aperture .a 2).users ∧
    ((draining .draining 1).aperture .a 2).state ≠ .open ∧
    ((draining .draining 1).wires.aperture.get .a = .userEnd 2 :: [] ∧
      ((draining .draining 1).apertureUnit .a).clearing = false ∧
      ((draining .draining 1).aperture .a 2).users = 1) ∧
    ((draining .draining 2).aperture .a 2).users - 1 ≠ 0 ∧
    (((draining .draining 1).setApertureUnit .a
        { (draining .draining 1).apertureUnit .a with clearing := true }).apertureUnit .a |>.clearing) ∧
      (∀ j, j ≠ 2 → ((draining .draining 1).aperture .a j).state = .closed) ∧
    ((asked online .b (ask 0x31 [0, 8])).handedOver .b 0x31 (ask 0x31 [0, 8]) [] ∧
      (ask 0x31 [0, 8]).arg 0 < 2 ∧ 8 ≤ (ask 0x31 [0, 8]).arg 1 ∧ online.online .b = true ∧
      (ask 0x31 [0, 7]).arg 1 < 8 ∧ (ask 0x31 [0, 7]).arg 0 ≠ domainValue .b ∧
      (asked State.reset .b (ask 0x31 [1, 0])).online .b = false) := by decide

/-- R94. -/
theorem test_revoke_aperture :
    code (.revokeAperture .a) .a (asked (draining .open 0) .a (ask 0x31 [0, 2])) = some (.ok, 0) ∧
      code (.revokeAperture .a) .a (asked (draining .open 1) .a (ask 0x31 [0, 2])) =
        some (.accepted, 0) ∧
      ((after (.revokeAperture .a) (asked (draining .open 1) .a (ask 0x31 [0, 2]))).aperture .a 2).state
        = .draining := by decide

/-- R95, R103: the last end closes a DRAINING aperture and posts to both ports. -/
theorem test_user_end :
    let t := after (.userEnd .a) (draining .draining 1)
    (t.aperture .a 2).state = .closed ∧ t.wires.postings.get .a = [.revokeDone .a 2 1] ∧
      t.wires.postings.get .b = [.apertureWithdrawn .a 2 1] ∧
      ((after (.userEnd .a) (draining .draining 2)).aperture .a 2).state = .draining := by decide

/-! ### Reports, links and notices (Chapters 1, 7 and 8) -/

/-- A report about channel 9 of Port A on its way behind one about channel 3; the owner's queue holds
`n` records. -/
def reporting (c : Channel) (b : ReportBody) (n : Nat) : State :=
  let s := online.setChannel 9 c
  (s.setNoticeUnit .a
    { NoticeUnit.reset with queue := List.replicate n ⟨.system .peerReady, 0, 1⟩, sequence := 9 }).setWires
    { s.wires with reports := [⟨3, .faulted⟩, ⟨9, b⟩] }

/-- Unit end 3 of Table 1-7. -/
def unitEnd3 (n : Nat) : State :=
  reporting { running .a 1 with loaded := some ⟨blocks, 0x10080, 0x80080, 8⟩ }
    (.unitEnd ⟨0x100A0, 0x800A0, 8⟩ .credit) n

/-- Channel 9 stopping with credit and a pending line, the stop report of a unit that line 3 served. -/
def stopReport9 (k : StopCause) (n : Nat) : State :=
  reporting
    { running .a 1 with
      state := .stopping, origin := some .line, servedLine := some 3, linePending := true }
    (.stop ⟨0x10010, 0x80010, 4⟩ k) n

theorem witness_UnitEndReportsAreTaken :
    ((unitEnd3 27).wires.reports = [⟨3, .faulted⟩] ++ ⟨9, .unitEnd ⟨0x100A0, 0x800A0, 8⟩ .credit⟩ :: [] ∧
      ∀ x ∈ ([⟨3, .faulted⟩] : List EngineReport), x.channel ≠ 9) ∧
    ((unitEnd3 27).channel 9).state = .running ∧ ((unitEnd3 27).channel 9).loaded.isSome ∧
      ((unitEnd3 27).channel 9).owner = some .a ∧ (unitEnd3 27).online .a = true ∧
      ((unitEnd3 27).noticeUnit .a).queue.length < 28 ∧
      28 ≤ ((unitEnd3 28).noticeUnit .a).queue.length ∧
    (reporting (running .a 0) .faulted 0).wires.reports = [⟨3, .faulted⟩] ++ ⟨9, .faulted⟩ :: [] ∧
    ((reporting { running .a 0 with state := .stopping }
      (.unitEnd ⟨0x10040, 0x80040, 16⟩ .credit) 0).channel 9).state = .stopping ∧
    ({ unitEnd3 28 with ports := State.reset.ports }).online .a = false := by decide

/-- Section 1.13, unit end 3: IDLE without credit, CHANNEL_DONE with the unused credit, and the link
to channel 10. -/
theorem test_unit_end_of_table_1_7 :
    let t := after (.unitEndReport 9) (unitEnd3 27)
    (t.channel 9).state = .idle ∧ (t.channel 9).credit = 0 ∧
      (t.noticeUnit .a).queue.getLast? =
        some ⟨.channel (.channelDone 9 0 8 .credit 1), 9, 1⟩ ∧ t.wires.links = [⟨9, .a, 10⟩] := by
  decide

/-- Section 1.13, unit end 2: with 28 records the notice is parked. -/
theorem test_unit_end_parks :
    let t := after (.unitEndReport 9) (unitEnd3 28)
    (t.channel 9).state = .posting ∧ (t.channel 9).afterState = some .idle ∧
      (t.noticeUnit .a).parking = [⟨9, .channelDone 9 0 8 .credit 1⟩] := by decide

/-- R66. -/
theorem test_fault_message :
    ((after (.faultMessage 9) (reporting (running .a 0) .faulted 0)).channel 9).state = .stopping := by
  decide

theorem witness_StopReportsAreTaken :
    ((stopReport9 .abort 27).wires.reports = [⟨3, .faulted⟩] ++ ⟨9, .stop ⟨0x10010, 0x80010, 4⟩ .abort⟩ :: [] ∧
      ∀ x ∈ ([⟨3, .faulted⟩] : List EngineReport), x.channel ≠ 9) ∧
    ((stopReport9 .abort 27).channel 9).state = .stopping ∧
      ((stopReport9 .abort 27).channel 9).owner = some .a ∧
      ((stopReport9 .abort 27).channel 9).loaded.isSome ∧
      ((stopReport9 .abort 27).channel 9).origin = some .line ∧
      (∀ n, ((stopReport9 .abort 27).channel 9).mappedLine = some n →
        ((stopReport9 .abort 27).line n).mapping = some ⟨9, .a⟩) ∧
      (stopReport9 .abort 27).tableClearing.get .a = false ∧
      ((stopReport9 .abort 27).noticeUnit .a).queue.length < 28 ∧
      28 ≤ ((stopReport9 .abort 28).noticeUnit .a).queue.length ∧
      (stopReport9 .abort 28).online .a = true ∧
    ((stopReport9 .abort 27).setTableClearing .a true).tableClearing.get .a = true ∧
      ∀ x, ((after (.stopReport 9) ((stopReport9 .abort 27).setTableClearing .a true)).channel x).owner
        ≠ some .a := by decide

/-- Section 3.9: the report writes progress and fault record, and the line is returned without ACK. -/
theorem test_stop_report :
    let f : FaultRecord := ⟨.readError, .a, 0x200040, 8, false⟩
    let t := after (.stopReport 9) (stopReport9 (.fault f) 27)
    (t.channel 9).state = .faulted ∧ (t.channel 9).fault = some f ∧ (t.channel 9).credit = 0 ∧
      (t.channel 9).loaded.map (fun d => (d.curSrc, d.remaining)) = some (0x10010, 36) ∧
      t.wires.returns = [⟨3, 9⟩] ∧
      (t.noticeUnit .a).queue.getLast? = some ⟨.channel (.fault 9 f), 9, 1⟩ := by decide

/-- Section 3.10, ABORT taken first: the unit-end report ends the stop (R73). -/
theorem test_unit_end_as_stop_report :
    let t := after (.unitEndReport 9)
      (reporting { running .a 0 with state := .stopping } (.unitEnd ⟨0x10040, 0x80040, 16⟩ .credit) 0)
    (t.channel 9).state = .idle ∧ (t.noticeUnit .a).queue.getLast? =
      some ⟨.channel (.aborted 9 24 16 .credit), 9, 1⟩ := by decide

/-- Link deliveries to a channel of `lively`, behind another. -/
def linked (target : ChannelNo) : State :=
  { lively with wires := { lively.wires with links := [⟨1, .b, 2⟩, ⟨9, .a, target⟩] } }

theorem witness_LinkDeliveryAddsCreditOrIsRefused :
    (linked 8).RecordsSound ∧ (linked 8).wires.links = [⟨1, .b, 2⟩] ++ ⟨9, .a, 8⟩ :: [] ∧
    ((linked 63).channel 63).owner ≠ some .a ∧ (linked 63).online .a = true ∧
    (((linked 5).channel 5).owner = some .a ∧
      ((linked 5).channel 5).state ∉ [ChannelState.ready, .running, .posting]) ∧
    (((linked 6).channel 6).owner = some .a ∧ ((linked 6).channel 6).credit = 15 ∧
      ((linked 6).channel 6).state = .ready) ∧
    (((linked 8).channel 8).state = .ready ∧ ((linked 8).channel 8).credit = 0 ∧
      ((linked 8).channel 8).linePending = false ∧ ((linked 8).channel 8).loaded.isSome) ∧
    (((linked 10).channel 10).state = .ready ∧ ((linked 10).channel 10).credit = 14) :=
  ⟨lively_records_sound, rfl, by decide, rfl, by decide, by decide, by decide, by decide⟩

/-- Section 1.13: the target joins its queue; a FREE target is refused NOT_OWNER. R25: nothing is posted
to an owner that is not ONLINE as the delivery is judged. -/
theorem test_link_delivery :
    (after (.linkDelivery 1) (linked 8)).trigger.normal = [6, 9, 10, 8] ∧
      ((after (.linkDelivery 1) (linked 8)).channel 8).credit = 1 ∧
      (after (.linkDelivery 1) (linked 63)).wires.postings.get .a = [.linkRefused 9 63 .notOwner] ∧
      (after (.linkDelivery 1) { linked 63 with ports := State.reset.ports }).wires.postings.get .a =
        [] := by
  decide

/-- Port B of Table 8-4: `n` records in the queue, the Deferred Set given, one more notice posted
behind another. -/
def posted (n : Nat) (ds : List Deferred) (x : SystemNotice) : State :=
  { online.setNoticeUnit .b
      { NoticeUnit.reset with
        queue := List.replicate n ⟨.system .peerReady, 0, 1⟩, deferred := ds } with
    wires := { State.reset.wires with postings := ⟨[], [.peerLost, x]⟩ } }

/-- APERTURE_OFFERED A, 2 of a generation. -/
def offered (generation : BitVec 8) : SystemNotice := .apertureOffered .a 2 generation 0 1 .read

theorem witness_SystemNoticesQueueMergeOrDefer :
    (posted 31 [] .peerReady).wires.postings.get .b = [.peerLost] ++ .peerReady :: [] ∧
      (posted 31 [] .peerReady).online .b = true ∧
      ((posted 31 [] .peerReady).noticeUnit .b).queue.length < 32 ∧
    32 ≤ ((posted 32 [⟨offered 5, 255⟩] (offered 6)).noticeUnit .b).queue.length ∧
      ((posted 32 [⟨offered 5, 255⟩] (offered 6)).noticeUnit .b).deferred =
        [] ++ ⟨offered 5, 255⟩ :: [] ∧ (offered 5).sameKey (offered 6) = true ∧
    (∀ v ∈ ((posted 32 [⟨offered 5, 1⟩] .peerLost).noticeUnit .b).deferred,
      v.notice.sameKey .peerLost = false) ∧
    ({ posted 32 [] .peerLost with ports := State.reset.ports }).online .b = false := by decide

/-- Table 8-4: the second offer merges and keeps its place; PEER_LOST joins the set. -/
theorem test_deferral_of_table_8_4 :
    ((after (.systemNoticePosting .b 1)
      (posted 32 [⟨offered 5, 1⟩, ⟨.apertureWithdrawn .a 2 5, 1⟩] (offered 6))).noticeUnit .b).deferred =
        [⟨offered 6, 2⟩, ⟨.apertureWithdrawn .a 2 5, 1⟩] ∧
    ((after (.systemNoticePosting .b 1) (posted 32 [⟨offered 6, 2⟩] .peerLost)).noticeUnit .b).deferred =
        [⟨offered 6, 2⟩, ⟨.peerLost, 1⟩] := by decide

/-- Port A pops with `n` records queued, the Deferred Set given, and channel 4 of `lively` parked. -/
def popping (n : Nat) (ds : List Deferred) : State :=
  asked
    (lively.setNoticeUnit .a
      { lively.noticeUnit .a with
        queue := List.replicate n ⟨.system .peerReady, 73, 1⟩, sequence := 103, deferred := ds })
    .a (ask 0x40 [])

theorem witness_PopAnswersHeadAndRefills :
    ((popping 28 []).handedOver .a 0x40 (ask 0x40 []) [] ∧ (popping 28 []).online .a = true ∧
      ((popping 28 []).noticeUnit .a).queue =
        ⟨.system .peerReady, 73, 1⟩ :: List.replicate 27 ⟨.system .peerReady, 73, 1⟩ ∧
      ((popping 28 []).noticeUnit .a).deferred = [] ∧
      ((popping 28 []).noticeUnit .a).parking = ⟨4, .channelDone 4 0 16 .credit 0⟩ :: [] ∧
      (List.replicate 27 (⟨.system .peerReady, 73, 1⟩ : NoticeRecord)).length < 28 ∧
      ((popping 28 []).channel 4).afterState = some .idle) ∧
    28 ≤ (List.replicate 28 (⟨.system .peerReady, 73, 1⟩ : NoticeRecord)).length ∧
    (⟨.system .peerReady, 73, 1⟩ : NoticeRecord).repeats ≤ 255 ∧
    ((popping 32 [⟨offered 6, 255⟩]).noticeUnit .a).deferred = ⟨offered 6, 255⟩ :: [] ∧
    ((popping 0 []).noticeUnit .a).queue = [] ∧
    ((asked State.reset .a (ask 0x40 [])).handedOver .a 0x40 (ask 0x40 []) [] ∧
      (asked State.reset .a (ask 0x40 [])).online .a = false) := by decide

/-- Table 8-3: the pop that lowers the queue to 27 admits the parked notice with sequence 103; the one
before it, from 29, admits nothing. -/
theorem test_pops_of_table_8_3 :
    let t := after (.popNotice .a) (popping 28 [])
    (t.noticeUnit .a).queue.getLast? = some ⟨.channel (.channelDone 4 0 16 .credit 0), 103, 1⟩ ∧
      (t.noticeUnit .a).parking = [] ∧ (t.channel 4).state = .idle ∧
      ((after (.popNotice .a) (popping 29 [])).noticeUnit .a).queue.length = 28 := by decide

/-- Table 10-9: kind 10 and sequence 73; a full Deferred Set comes first. -/
theorem test_pop_answer :
    ((answered (.popNotice .a) .a (popping 29 [])).map fun r => (r.res.row 0).toNat) =
        some (10 + 256 + 73 * 65536) ∧
      ((after (.popNotice .a) (popping 32 [⟨offered 6, 2⟩])).noticeUnit .a).queue.getLast? =
        some ⟨.system (offered 6), 103, 2⟩ := by decide

/-! ### The window, answers and sessions (Chapters 9 and 10) -/

/-- Table 10-10: LOAD of channel 12 latched at Port B. -/
def table1010 : State := asked online .b (ask 0x12 [12])

theorem witness_WindowWrites :
    (online.prst.get .b = false ∧ (online.port .b).latched = none) ∧
    (table1010.prst.get .b = false ∧ (table1010.port .b).latched.isSome) ∧
    ({ online with prst := ⟨false, true⟩ }).prst.get .b = true ∧
    (0x20#6).toNat = 4 * (7 : Fin 8).val + 4 ∧ (0x04#6).toNat = 4 * (0 : Fin 8).val + 4 ∧
    ∀ i : Fin 8, (0x24#6).toNat ≠ 4 * i.val + 4 := by decide

/-- Table 10-10, third row: CMD keeps 12h's latch and DROPPED is set. -/
theorem test_dropped_command_of_table_10_10 :
    ((after (.cmdWriteDropped .b 0x20) table1010).port .b).dropped = true ∧
      ((after (.cmdWriteDropped .b 0x20) table1010).port .b).latched = (table1010.port .b).latched ∧
      ((after (.pstatWrite .b 0x200) (after (.cmdWriteDropped .b 0x20) table1010)).port .b).dropped =
        false := by decide

/-- Table 10-10, sixth row. -/
theorem test_command_latch :
    let t := after (.commandLatch .b 0x20) (after (.registerWrite .b 0x04 12) online)
    (t.port .b).cmd = 0x20 ∧ (t.wires.handed.get .b).map (fun l => l.arg 0) = [12] := by decide

/-- R145: the enable is bit 0 of the value written, and INTA is the level of a queue that holds. -/
theorem test_inten_write :
    intLevel (after (.intenWrite .a 3) lively) .a = true ∧
      intLevel (after (.intenWrite .a 2) lively) .a = false := by decide

/-- Table 10-4: sessions ONLINE, BUSY, result OK, one record queued, INTA deasserted. -/
theorem test_port_status :
    (portStatus (asked lively .a (ask 0x20 [8])) .a).toNat = 1 + 4 + 16 + 1024 := by decide

theorem witness_WindowReadsBack :
    online.prst.get .a = false ∧ ({ online with prst := ⟨true, false⟩ }).prst.get .a = true ∧
      (lively.noticeUnit .a).queue.length ≤ 32 ∧ (0x34#6).toNat = 0x34 ∧
      (0x20#6).toNat = 0x04 + 4 * (7 : Fin 8).val ∧ (0x30#6).toNat = 0x24 + 4 * (3 : Fin 4).val ∧
      (0x3F#6).toNat % 4 ≠ 0 := by decide

/-- Two answers on their way to Port A, whose latched cycle is 0. -/
def answers : State :=
  { asked online .a (ask 0x77 []) with
    wires :=
      { (asked online .a (ask 0x77 [])).wires with
        answers := ⟨[⟨7, .plain .owned⟩, ⟨0, .plain .creditFull⟩], []⟩ } }

theorem witness_AnswersAreWrittenForTheirCycle :
    answers.wires.answers.get .a = [⟨7, .plain .owned⟩] ++ ⟨0, .plain .creditFull⟩ :: [] ∧
      (answers.port .a).latched = some (ask 0x77 []) ∧ (ask 0x77 []).cycle = 0 ∧
      (ask 0x77 []).cycle ≠ 7 ∧ answers.wires.handed.get .a = ask 0x77 [] :: [] ∧
      (ask 0x77 []).code.toNat ∉
        [0x01, 0x02, 0x10, 0x11, 0x12, 0x13, 0x14, 0x15, 0x20, 0x21, 0x22, 0x28, 0x29, 0x30, 0x31,
          0x32, 0x38, 0x39, 0x40] ∧
    ((asked online .a (ask 0x31 [2])).port .a).latched = some (ask 0x31 [2]) ∧
      (ask 0x31 [2]).code.toNat = 0x31 ∧ 2 ≤ (ask 0x31 [2]).arg 0 := by decide

/-- R161: the answer of another cycle is discarded. -/
theorem test_command_answer :
    ((after (.commandAnswer .a 1) answers).port .a).result = .creditFull ∧
      ((after (.commandAnswer .a 1) answers).port .a).latched = none ∧
      ((after (.commandAnswer .a 0) answers).port .a).result = .ok := by decide

theorem test_unknown_command_code :
    ((after (.unknownCommandCode .a) (asked State.reset .a (ask 0x77 []))).port .a).result =
      .unknownCommand := by decide

/-- R163: an aperture command that names domain 2. -/
theorem test_aperture_command_of_no_domain :
    ((after (.revokeAperture .a) (asked online .a (ask 0x31 [2]))).port .a).result = .badAperture := by
  decide

/-- A teardown of cause DETACH with only its channel report outstanding. -/
def detaching (p : Port) : State :=
  let s := online
  { s with
    ports := s.ports.set p { s.port p with session := .clearing ⟨.detach, false, true, true, true⟩ }
    wires := { s.wires with fields := s.wires.fields.set p [.lines, .channels] } }

theorem witness_AnnounceJoinsDetachLeaves :
    (((asked State.reset .a (ask 1 [])).port .a).latched = some (ask 1 []) ∧
      (asked State.reset .a (ask 1 [])).handedOver .a 1 (ask 1 []) [] ∧
      ((asked State.reset .a (ask 1 [])).port .a).session = .offline) ∧
    ((asked online .a (ask 1 [])).port .a).session = .online ∧
    ((asked (detaching .a) .a (ask 1 [])).port .a).session =
      .clearing ⟨.detach, false, true, true, true⟩ ∧
    ((asked online .a (ask 2 [])).handedOver .a 2 (ask 2 []) [] ∧
      ((asked online .a (ask 2 [])).port .a).latched = some (ask 2 [])) := by decide

/-- R149: peer OFFLINE, identity 5A64h, revision 02h; PEER_READY to the peer. -/
theorem test_announce :
    let t := after (.announce .a) (asked State.reset .a (ask 1 []))
    (t.port .a).session = .online ∧
      ((t.port .a).res.row 0, (t.port .a).res.row 1, (t.port .a).res.row 2) = (0, 0x5A64, 0x02) ∧
      t.wires.postings.get .b = [.peerReady] := by decide

/-- Table 9-6, first row. -/
theorem test_detach :
    let t := after (.detach .a) (asked online .a (ask 2 []))
    (t.port .a).session = .clearing ⟨.detach, false, false, false, false⟩ ∧
      (t.port .a).result = .accepted ∧ t.wires.postings.get .b = [.peerLost] ∧
      t.wires.directions.get .a = ⟨true, true, true, true, 0⟩ := by decide

theorem witness_ResetLineFreezesAndTearsDown :
    (State.reset.prst.get .a = false ∧ (State.reset.port .a).session = .offline) ∧
    (online.prst.get .a = false ∧ (online.port .a).session = .online) ∧
    ((detaching .a).prst.get .a = false ∧
      ((detaching .a).port .a).session = .clearing ⟨.detach, false, true, true, true⟩) ∧
    ({ online with prst := ⟨true, false⟩ }).prst.get .a = true := by decide

/-- Table 9-7, second row: the cause becomes RESET, the bus is to be abandoned, no second
PEER_LOST. -/
theorem test_prst_ends_a_detach :
    let t := after (.prstxAsserted .a) (detaching .a)
    (t.port .a).session = .clearing ⟨.reset, false, true, true, true⟩ ∧
      (t.wires.directions.get .a).abandon = 1 ∧ t.wires.postings.get .b = [] ∧
      readWindow t .a 0x34 = 0 ∧ (after (.prstxReleased .a) t).prst.get .a = false := by decide

/-- A teardown of Port A directed at every block of `lively`, with a unit stopping. -/
def tornDown : State :=
  { lively with
    wires := { lively.wires with directions := ⟨⟨true, true, true, true, 0⟩, .none⟩ } }

theorem tornDown_lines_sound : tornDown.LinesSound :=
  ⟨lively_lines_sound.unmapped, lively_lines_sound.toChannel, lively_lines_sound.toLine,
    lively_lines_sound.pending⟩

theorem witness_TeardownTakesChannelsAndLines :
    (tornDown.wires.directions.get .a).channelTable = true ∧
      (tornDown.wires.directions.get .a).triggerUnit = true ∧ tornDown.LinesSound ∧
      (tornDown.channel 7).owner = some .a ∧ (tornDown.channel 7).state = .running ∧
      (tornDown.channel 9).state = .ready ∧ (tornDown.line 3).mapping = some ⟨9, .a⟩ :=
  ⟨rfl, rfl, tornDown_lines_sound, rfl, rfl, rfl, rfl⟩

/-- Table 9-6, fourth row: a RUNNING channel goes STOPPING with cause TEARDOWN; a POSTING one is FREE
and its notice is gone. -/
theorem test_channel_table_teardown :
    let t := (tornDown.tearDownChannel .a 7).tearDownChannel .a 4
    (t.channel 7).state = .stopping ∧ t.wires.causes = [⟨7, .teardown⟩] ∧
      (t.channel 4).state = .free ∧ (t.noticeUnit .a).parking = [] := by decide

/-- Table 9-6, third row. -/
theorem test_trigger_unit_teardown :
    let t := after (.triggerUnitTeardown .a) tornDown
    (t.line 3).state = .unmapped ∧ (t.channel 9).mappedLine = none ∧
      t.wires.fields.get .a = [.lines] := by decide

theorem witness_TeardownEndsOffline :
    (tornDown.wires.directions.get .a).apertureUnit = true ∧
      (tornDown.wires.directions.get .a).noticeUnit = true ∧
      (tornDown.aperture .a 2).users = 1 ∧ (tornDown.aperture .a 2).state = .open ∧
    ((detaching .a).wires.fields.get .a = [.lines] ++ .channels :: [] ∧
      TeardownField.channels ∉ [TeardownField.lines] ∧
      ((detaching .a).port .a).session = .clearing ⟨.detach, false, true, true, true⟩) ∧
    ∀ t, (State.reset.port .a).session ≠ .clearing t :=
  ⟨rfl, rfl, rfl, rfl, by decide, fun t h => by cases h⟩

/-- Table 9-6: AUA drains, NUA clears, and the last report held ends the teardown. -/
theorem test_teardown_of_table_9_6 :
    ((after (.apertureUnitTeardown .a) tornDown).aperture .a 2).state = .draining ∧
      ((after (.noticeUnitClear .a) tornDown).noticeUnit .a).queue = [] ∧
      ((after (.teardownReport .a .channels) (detaching .a)).port .a).session = .offline := by decide

/-- R2, R148: whatever the hub was doing. -/
theorem test_power_on_reset :
    ((after .powerOnReset lively).channel 7).state = .free ∧
      ((after .powerOnReset lively).port .a).session = .offline ∧
      ((after .powerOnReset lively).engine 1).phase = .idle := by decide

end Sys2Proof.Tests
end

section
/-! PROOFS. Rules for the Channel Table: an owner taking the command at the front of its hand-off, the
first checks of R3, and the write of a record by whether it changes the channel's eligibility. -/

namespace Sys2Proof.Machine

variable (s : State)

/-! ### Taking a command (R160, R161, R163) -/

/-- The commands of Table 10-3 that the Port Command Unit never owns, whatever their arguments. -/
theorem unitOwned_eq_false {l : Latched} {c : Command} (h : commandOf l.code = some c)
    (hc : c ∉ [Command.announce, .detach, .readEngines, .openAperture, .revokeAperture,
      .queryAperture]) : unitOwned l = false := by
  cases c <;> simp_all [unitOwned]

theorem ownerTakes_of_act {c : Command} {act : Act} {p : Port} {s t : State} {l : Latched}
    {rest : List Latched} {r : Reply} (handed : s.wires.handed.get p = l :: rest)
    (code : commandOf l.code = some c) (owned : unitOwned l = false)
    (acts : act p l.args (s.setHanded p rest) = (r, t)) :
    ownerTakes c act p s = t.sendAnswer p ⟨l.cycle, r⟩ := by
  simp [ownerTakes, handed, code, owned, acts]

/-- An owner that answers and leaves its own state alone changes the two ends of the command's way. -/
theorem setHanded_sendAnswer (p : Port) (l : Latched) (rest : List Latched) (r : Reply) :
    (s.setHanded p rest).sendAnswer p ⟨l.cycle, r⟩ = s.taken p l rest r := rfl

@[simp] theorem setHanded_online (p q : Port) (ls : List Latched) :
    (s.setHanded p ls).online q = s.online q := rfl

@[simp] theorem setHanded_channel (p : Port) (ls : List Latched) (ch : ChannelNo) :
    (s.setHanded p ls).channel ch = s.channel ch := rfl

/-! ### The first checks of R3 -/

theorem channelArg_of_toNat_eq {w : Word} {ch : ChannelNo} (h : w.toNat = ch.val) :
    channelArg w = some ch := by
  simp [channelArg, h]

/-- A command that does not ask for the owner passes with any channel number (R3). -/
theorem channelCheck_anyOwner {p : Port} {w : Word} {ch : ChannelNo} (online : s.online p = true)
    (number : w.toNat = ch.val) : channelCheck s p w false = .ok ch := by
  simp [channelCheck, online, channelArg_of_toNat_eq number]

/-! ### Writing a record (R14, R30, R31) -/

theorem writeChannel_of_eligible_eq {ch : ChannelNo} {c : Channel}
    (same : (s.channel ch).eligible = c.eligible) : s.writeChannel ch c = s.setChannel ch c := by
  simp [State.writeChannel, same]

theorem writeChannel_of_becomes_eligible {ch : ChannelNo} {c : Channel} {ld : Loaded}
    (was : (s.channel ch).eligible = false) (becomes : c.eligible = true)
    (loaded : c.loaded = some ld) :
    s.writeChannel ch c =
      (s.setChannel ch c).setTrigger (s.trigger.join ld.program.cls ch) := by
  have queued : ((s.setChannel ch c).channel ch).loaded = some ld := by
    simp [State.channel, loaded]
  simp [State.writeChannel, was, becomes, State.joinQueue, queued]

theorem TriggerUnit.holds_iff (t : TriggerUnit) (ch : ChannelNo) :
    t.holds ch = true ↔ ∃ k, ch ∈ t.queue k := by
  constructor
  · intro h
    simp only [TriggerUnit.holds, Bool.or_eq_true, List.contains_iff_mem] at h
    obtain (h | h) | h := h
    · exact ⟨.urgent, h⟩
    · exact ⟨.normal, h⟩
    · exact ⟨.bulk, h⟩
  · rintro ⟨k, h⟩
    cases k <;> simp_all [TriggerUnit.holds, TriggerUnit.queue]

/-- A channel in no queue joins the tail of its class's queue (R30). -/
theorem TriggerUnit.join_of_not_queued {t : TriggerUnit} {ch : ChannelNo}
    (out : ∀ k, ch ∉ t.queue k) (k : SchedClass) :
    t.join k ch = t.setQueue k (t.queue k ++ [ch]) := by
  have not_held : ¬t.holds ch = true := fun h =>
    let ⟨j, hj⟩ := (t.holds_iff ch).1 h
    out j hj
  rw [TriggerUnit.join, if_neg not_held]

/-- R31: a channel that is not eligible stands in no queue. -/
theorem State.QueuesSound.not_queued {s : State} (sound : s.QueuesSound) {ch : ChannelNo}
    (h : (s.channel ch).eligible = false) (k : SchedClass) : ch ∉ s.trigger.queue k := by
  intro hk
  have eligible := (sound.2 k ch hk).1
  simp [h] at eligible

/-! ### CLAIM (R4) -/

theorem claimAct_of_free {p : Port} {a : Table Word 8} {ch : ChannelNo} (online : s.online p = true)
    (number : (a.row 0).toNat = ch.val) (free : (s.channel ch).state = .free) :
    claimAct p a s =
      (.plain .ok, s.setChannel ch { Channel.free with owner := some p, state := .idle }) := by
  have idle_waits : (s.channel ch).eligible =
      ({ Channel.free with owner := some p, state := .idle } : Channel).eligible := by
    simp [Channel.eligible, free]
  simp only [claimAct, channelCheck_anyOwner s online number, free, if_true,
    writeChannel_of_eligible_eq s idle_waits]

theorem claimAct_of_not_free {p : Port} {a : Table Word 8} {ch : ChannelNo}
    (online : s.online p = true) (number : (a.row 0).toNat = ch.val)
    (taken : (s.channel ch).state ≠ .free) : claimAct p a s = (.plain .owned, s) := by
  simp only [claimAct, channelCheck_anyOwner s online number, taken, if_false]

theorem exec_claim (p : Port) : exec (.claim p) s = .next (ownerTakes .claim claimAct p s) := rfl

end Sys2Proof.Machine

open Sys2Proof Sys2Proof.Machine

/-- Settles O13: by whether the channel is FREE; CLAIM of a FREE channel makes no channel eligible, so
the Trigger Unit hears nothing. -/
theorem claimTakesFreeChannel : Obligations.ClaimTakesFreeChannel := by
  intro s p l rest ch ⟨handed, code⟩ online number
  have isClaim : commandOf l.code = some .claim := by simp [commandOf, code]
  have notUnit : unitOwned l = false := unitOwned_eq_false isClaim (by decide)
  rw [exec_claim]
  by_cases free : (s.channel ch).state = .free
  · rw [if_pos free, ownerTakes_of_act handed isClaim notUnit
      (claimAct_of_free (s.setHanded p rest) online number free)]
    rfl
  · rw [if_neg free, ownerTakes_of_act handed isClaim notUnit
      (claimAct_of_not_free (s.setHanded p rest) online number free), setHanded_sendAnswer]

end

section
/-! PROOFS. QUERY_TABLE: each entry of a map is one bit of one of its two registers (R13, Table
10-7). -/

namespace Sys2Proof.Machine

/-! ### Bits of a map -/

theorem getLsbD_place_flag (i j : Nat) (b : Bool) (hj : j < 32) :
    (place i (flag b)).getLsbD j = (b && decide (j = i)) := by
  cases b
  · simp [place, flag]
  · have one : place i (flag true) = BitVec.twoPow 32 i := rfl
    have same : i < 32 ∧ i = j ↔ j = i := by omega
    simp only [one, BitVec.getLsbD_twoPow, ← Bool.decide_and, same, Bool.true_and]

theorem getLsbD_bitMap (f : Nat → Bool) (n j : Nat) (hj : j < 32) :
    (bitMap f n).getLsbD j = (decide (j < n) && f j) := by
  induction n with
  | zero => simp [bitMap]
  | succ n ih =>
    rw [bitMap, BitVec.getLsbD_or, ih, getLsbD_place_flag n j _ hj]
    by_cases here : j = n
    · simp [here]
    · have : j < n + 1 ↔ j < n := by omega
      simp [here, this]

@[simp] theorem channelBit_val (t : Table Channel 64) (f : Channel → Bool) (ch : ChannelNo) :
    channelBit t f ch.val = f (t.row ch) := by
  simp [channelBit]

/-- Entry `ch` of a map stands at bit `ch % 32` of the first register below 32, of the second above. -/
theorem getLsbD_channelMap (t : Table Channel 64) (f : Channel → Bool) (ch : ChannelNo) :
    (if ch.val < 32 then (channelMap t f).1 else (channelMap t f).2).getLsbD (ch.val % 32) =
      f (t.row ch) := by
  have bit : ch.val % 32 < 32 := Nat.mod_lt _ (by decide)
  by_cases low : ch.val < 32
  · rw [if_pos low, channelMap, getLsbD_bitMap _ _ _ bit, Nat.mod_eq_of_lt low, channelBit_val]
    simp [low]
  · have shifted : 32 + ch.val % 32 = ch.val := by omega
    rw [if_neg low, channelMap, getLsbD_bitMap _ _ _ bit, shifted, channelBit_val]
    simp [bit]

/-! ### Result registers -/

theorem results_row (r0 r1 r2 r3 : Word) :
    (results r0 r1 r2 r3).row 0 = r0 ∧ (results r0 r1 r2 r3).row 1 = r1 ∧
      (results r0 r1 r2 r3).row 2 = r2 ∧ (results r0 r1 r2 r3).row 3 = r3 :=
  ⟨rfl, rfl, rfl, rfl⟩

theorem tableView_rows (p : Port) (t : Table Channel 64) :
    (tableView p t).row 0 = (channelMap t fun c => c.state = .free).1 ∧
      (tableView p t).row 1 = (channelMap t fun c => c.state = .free).2 ∧
      (tableView p t).row 2 = (channelMap t fun c => c.owner = some p).1 ∧
      (tableView p t).row 3 = (channelMap t fun c => c.owner = some p).2 :=
  results_row _ _ _ _

/-- The first map of QUERY_TABLE (R13). -/
theorem tableView_free (p : Port) (s : State) (ch : ChannelNo) :
    (if ch.val < 32 then (tableView p s.channels).row 0
      else (tableView p s.channels).row 1).getLsbD (ch.val % 32) = true ↔
      (s.channel ch).state = .free := by
  obtain ⟨row0, row1, -, -⟩ := tableView_rows p s.channels
  rw [row0, row1, getLsbD_channelMap, State.channel, decide_eq_true_iff]

/-- The second map of QUERY_TABLE (R13). -/
theorem tableView_own (p : Port) (s : State) (ch : ChannelNo) :
    (if ch.val < 32 then (tableView p s.channels).row 2
      else (tableView p s.channels).row 3).getLsbD (ch.val % 32) = true ↔
      (s.channel ch).owner = some p := by
  obtain ⟨-, -, row2, row3⟩ := tableView_rows p s.channels
  rw [row2, row3, getLsbD_channelMap, State.channel, decide_eq_true_iff]

theorem exec_queryTable (p : Port) (s : State) :
    exec (.queryTable p) s = .next (ownerTakes .queryTable queryTableAct p s) := rfl

end Sys2Proof.Machine

open Sys2Proof Sys2Proof.Machine

/-- Settles O19: the answer is the view of the table as it stands, read back bit by bit. -/
theorem queryTableMapsFreeAndOwned : Obligations.QueryTableMapsFreeAndOwned := by
  intro s p l rest ⟨handed, code⟩
  have isQuery : commandOf l.code = some .queryTable := by simp [commandOf, code]
  have notUnit : unitOwned l = false := unitOwned_eq_false isQuery (by decide)
  refine ⟨fun offline => ?_, fun online => ⟨tableView p s.channels, ?_, fun ch =>
    ⟨tableView_free p s ch, tableView_own p s ch⟩⟩⟩
  · have acts : queryTableAct p l.args (s.setHanded p rest) =
        (.plain .notOnline, s.setHanded p rest) := by
      simp [queryTableAct, offline]
    rw [exec_queryTable, ownerTakes_of_act handed isQuery notUnit acts, setHanded_sendAnswer]
  · have acts : queryTableAct p l.args (s.setHanded p rest) =
        (⟨.ok, tableView p s.channels⟩, s.setHanded p rest) := by
      simp [queryTableAct, online]
    rw [exec_queryTable, ownerTakes_of_act handed isQuery notUnit acts, setHanded_sendAnswer]

end

section
/-! PROOFS. Link deliveries: the checks of R24 one by one, and the record that gains a credit. -/

namespace Sys2Proof.Machine

/-- A position names the hand-off with that many before it, and the others keep their order. -/
theorem takeAt_append {α : Type} (before after : List α) (x : α) :
    takeAt before.length (before ++ x :: after) = some (x, before ++ after) := by
  induction before with
  | nil => rfl
  | cons y ys ih => simp [takeAt, ih]

theorem exec_linkDelivery {s : State} {before after : List LinkWord} {w : LinkWord}
    (links : s.wires.links = before ++ w :: after) :
    exec (.linkDelivery before.length) s =
      .next ((s.setWires { s.wires with links := before ++ after }).deliverLink w) := by
  change execLinkDelivery before.length s = _
  rw [execLinkDelivery, links, takeAt_append]

/-! ### The checks of R24 -/

theorem Channel.canTake_iff (c : Channel) :
    c.canTake = true ↔ c.state ∈ [ChannelState.ready, .running, .posting] := by
  cases h : c.state <;> simp [Channel.canTake, h]

section
variable {c : Channel} {p : Port}

theorem linkCheck_of_not_owner (owner : c.owner ≠ some p) : linkCheck c p = some .notOwner := by
  rw [linkCheck, if_pos owner]

theorem linkCheck_of_cannot_take (owner : c.owner = some p) (cannot : c.canTake = false) :
    linkCheck c p = some .wrongState := by
  simp [linkCheck, owner, cannot]

theorem linkCheck_of_credit_full (owner : c.owner = some p) (takes : c.canTake = true)
    (full : c.credit = 15) : linkCheck c p = some .creditFull := by
  simp [linkCheck, owner, takes, full, Config.creditMax]

theorem linkCheck_of_room (owner : c.owner = some p) (takes : c.canTake = true)
    (room : c.credit < 15) : linkCheck c p = none := by
  have below : ¬Config.creditMax ≤ c.credit := Nat.not_le.2 room
  simp [linkCheck, owner, takes, below]

end

/-! ### A refusal, and a credit gained (R25) -/

/-- The posting of R25 stands at the source's owner only when that owner is ONLINE; nothing else
changes. -/
theorem deliverLink_of_refused {s : State} {w : LinkWord} {reason : RefusalReason}
    (refused : linkCheck (s.channel w.target) w.owner = some reason) :
    s.deliverLink w =
      s.setWires
        { s.wires with
          postings :=
            if s.online w.owner = true then
              s.wires.postings.set w.owner
                (s.wires.postings.get w.owner ++ [.linkRefused w.source w.target reason])
            else s.wires.postings } := by
  simp only [State.deliverLink, refused]
  split <;> rfl

theorem deliverLink_of_accepted {s : State} {w : LinkWord}
    (accepted : linkCheck (s.channel w.target) w.owner = none) :
    s.deliverLink w =
      s.writeChannel w.target
        { s.channel w.target with credit := (s.channel w.target).credit + 1 } := by
  simp only [State.deliverLink, accepted]

/-- A channel with no trigger is not eligible, whatever its state. -/
theorem Channel.eligible_eq_false {c : Channel} (credit : c.credit = 0)
    (line : c.linePending = false) : c.eligible = false := by
  simp [Channel.eligible, credit, line]

theorem Channel.eligible_of_credit {c : Channel} (ready : c.state = .ready) (n : Nat) :
    ({ c with credit := n + 1 } : Channel).eligible = true := by
  simp [Channel.eligible, ready]

/-- One credit more makes no other channel eligible: one that is not READY stays so, and a READY one
with a trigger was eligible before. -/
theorem Channel.eligible_credit_eq {c : Channel}
    (other : ¬(c.state = .ready ∧ c.credit = 0 ∧ c.linePending = false)) :
    c.eligible = ({ c with credit := c.credit + 1 } : Channel).eligible := by
  by_cases ready : c.state = .ready
  · rw [Channel.eligible_of_credit ready]
    by_cases credit : c.credit = 0
    · simp_all [Channel.eligible]
    · simp [Channel.eligible, ready, Nat.pos_of_ne_zero credit]
  · simp [Channel.eligible, ready]

end Sys2Proof.Machine

open Sys2Proof Sys2Proof.Machine

/-- Settles O50: by the first check of R24 that fails; when none fails, by whether the credit makes the
target eligible, which then stands in no queue because the queues are sound. -/
theorem linkDeliveryAddsCreditOrIsRefused : Obligations.LinkDeliveryAddsCreditOrIsRefused := by
  intro s before after w links ⟨_, queues, _⟩ u c refused takes
  have delivers : exec (.linkDelivery before.length) s = .next (u.deliverLink w) :=
    exec_linkDelivery links
  have refusedBy {reason : RefusalReason} (h : linkCheck c w.owner = some reason) :
      refused reason := by
    change exec _ s = _
    rw [delivers, deliverLink_of_refused (s := u) h]
    rfl
  have able : c.canTake = true ↔ takes := c.canTake_iff
  refine ⟨fun owner => refusedBy (linkCheck_of_not_owner owner),
    fun owner cannot => refusedBy (linkCheck_of_cannot_take owner
      (Bool.eq_false_iff.2 fun h => cannot (able.1 h))),
    fun owner can full => refusedBy (linkCheck_of_credit_full owner (able.2 can) full),
    fun owner can room => ?_⟩
  intro v
  have writes : u.deliverLink w = u.writeChannel w.target { c with credit := c.credit + 1 } :=
    deliverLink_of_accepted (s := u) (linkCheck_of_room owner (able.2 can) room)
  refine ⟨fun ready credit line ld loaded => ?_, fun other => ?_⟩
  · have was : c.eligible = false := Channel.eligible_eq_false credit line
    have joins : s.trigger.join ld.program.cls w.target = _ :=
      TriggerUnit.join_of_not_queued (queues.not_queued was) ld.program.cls
    rw [delivers, writes, writeChannel_of_becomes_eligible u was
      (Channel.eligible_of_credit ready c.credit) loaded, ← joins]
    rfl
  · have same : c.eligible = ({ c with credit := c.credit + 1 } : Channel).eligible :=
      Channel.eligible_credit_eq other
    rw [delivers, writes, writeChannel_of_eligible_eq u same]
    rfl

end

section
/-! PROOFS. The dispatch arbiter: the class of Table 2-1, the queues and skip counters after a dispatch,
and what the rest of the happening leaves of them. -/

namespace Sys2Proof.Machine

/-! ### The class served (R33, Table 2-1) -/

/-- The last line of Table 2-1 needs no test once some queue holds a channel. -/
theorem TriggerUnit.choose_of_some_queued {t : TriggerUnit}
    (queued : t.urgent ≠ [] ∨ t.normal ≠ [] ∨ t.bulk ≠ []) :
    t.choose =
      some
        (if t.bulkSkip = 8 ∧ t.bulk ≠ [] then .bulk
        else if t.normalSkip = 8 ∧ t.normal ≠ [] then .normal
        else if t.urgent ≠ [] then .urgent
        else if t.normal ≠ [] then .normal
        else .bulk) := by
  simp only [TriggerUnit.choose, Config.skipMax, apply_ite some]
  by_cases bulk : t.bulk = []
  · by_cases urgent : t.urgent = []
    · have normal : t.normal ≠ [] := by simpa [urgent, bulk] using queued
      simp [bulk, urgent, normal]
    · simp [bulk, urgent]
  · simp [bulk]

theorem TriggerUnit.queue_ne_nil_of_choose {t : TriggerUnit} {k : SchedClass}
    (chosen : t.choose = some k) : t.queue k ≠ [] := by
  unfold TriggerUnit.choose at chosen
  split_ifs at chosen with bulk normal urgent normal bulk <;> cases chosen
  · exact bulk.2
  · exact normal.2
  · exact urgent
  · exact normal
  · exact bulk

/-! ### Queues and skip counters (R34) -/

section
variable (t : TriggerUnit) (j k : SchedClass) (q : List ChannelNo)

theorem TriggerUnit.queue_setQueue : (t.setQueue k q).queue j = if j = k then q else t.queue j := by
  cases j <;> cases k <;> rfl

@[simp] theorem TriggerUnit.setQueue_normalSkip : (t.setQueue k q).normalSkip = t.normalSkip := by
  cases k <;> rfl

@[simp] theorem TriggerUnit.setQueue_bulkSkip : (t.setQueue k q).bulkSkip = t.bulkSkip := by
  cases k <;> rfl

@[simp] theorem TriggerUnit.queue_countSkips : (t.countSkips k).queue j = t.queue j := by
  cases j <;> rfl

theorem TriggerUnit.normalSkip_countSkips :
    (t.countSkips k).normalSkip =
      if (t.countSkips k).normal = [] then 0
      else if k = .normal then 0
      else if k = .urgent then min 8 (t.normalSkip + 1)
      else t.normalSkip := by
  change _ = if t.normal = [] then _ else _
  by_cases empty : t.normal = []
  · simp [empty, TriggerUnit.countSkips, TriggerUnit.settle]
  · cases k <;>
      simp [empty, TriggerUnit.countSkips, TriggerUnit.settle, raiseSkip, Config.skipMax]

theorem TriggerUnit.bulkSkip_countSkips :
    (t.countSkips k).bulkSkip =
      if (t.countSkips k).bulk = [] then 0
      else if k = .bulk then 0
      else min 8 (t.bulkSkip + 1) := by
  change _ = if t.bulk = [] then _ else _
  by_cases empty : t.bulk = []
  · simp [empty, TriggerUnit.countSkips, TriggerUnit.settle]
  · cases k <;>
      simp [empty, TriggerUnit.countSkips, TriggerUnit.settle, raiseSkip, Config.skipMax]

end

/-! ### A line that takes its trigger (R40) -/

theorem takeTrigger_cases (s : State) (l : LineNo) :
    s.takeTrigger l = s ∨
      ∃ m, (s.line l).mapping = some m ∧
        s.takeTrigger l =
          (s.setLine l { s.line l with state := .pending }).writeChannel m.channel
            { s.channel m.channel with linePending := true } := by
  cases mapped : (s.line l).mapping with
  | none => exact .inl (by simp [State.takeTrigger, mapped])
  | some m =>
    by_cases takes :
        (s.line l).state = .waiting ∧ s.req.row l = true ∧ (s.channel m.channel).canTake = true
    · exact .inr ⟨m, rfl, by simp [State.takeTrigger, mapped, takes]⟩
    · exact .inl (by simp only [State.takeTrigger, mapped, if_neg takes])

theorem Channel.eligible_of_not_ready {c : Channel} (h : c.state ≠ .ready) : c.eligible = false := by
  simp [Channel.eligible, h]

/-- A trigger that a RUNNING channel takes is for its next unit: the Trigger Unit hears nothing (R14). -/
theorem takeTrigger_of_running {s : State} {l : LineNo} {ch : ChannelNo}
    (running : (s.channel ch).state = .running)
    (names : ∀ m, (s.line l).mapping = some m → m.channel = ch) :
    ((s.takeTrigger l).channel ch).state = .running ∧ (s.takeTrigger l).trigger = s.trigger := by
  obtain same | ⟨m, mapped, takes⟩ := takeTrigger_cases s l
  · rw [same]
    exact ⟨running, rfl⟩
  · obtain rfl := names m mapped
    have not_ready : (s.channel m.channel).state ≠ .ready := by simp [running]
    have waits : ((s.setLine l { s.line l with state := .pending }).channel m.channel).eligible =
        ({ s.channel m.channel with linePending := true } : Channel).eligible :=
      (Channel.eligible_of_not_ready not_ready).trans
        (Channel.eligible_of_not_ready (c := { s.channel m.channel with linePending := true })
          not_ready).symm
    rw [takes, writeChannel_of_eligible_eq _ waits]
    simp [State.channel, ← running]

theorem channelAble_of_running {s : State} {ch : ChannelNo}
    (running : (s.channel ch).state = .running)
    (names : ∀ l m, (s.channel ch).mappedLine = some l → (s.line l).mapping = some m →
      m.channel = ch) :
    ((s.channelAble ch).channel ch).state = .running ∧ (s.channelAble ch).trigger = s.trigger := by
  cases mapped : (s.channel ch).mappedLine with
  | none => simp [State.channelAble, mapped, running]
  | some l =>
    simpa only [State.channelAble, mapped] using
      takeTrigger_of_running running fun m => names l m mapped

theorem State.LinesSound.channel_of_mapping {s : State} (sound : s.LinesSound) {ch : ChannelNo}
    {l : LineNo} {m : Mapping} (line : (s.channel ch).mappedLine = some l)
    (mapped : (s.line l).mapping = some m) : m.channel = ch := by
  obtain ⟨n, names, back⟩ := sound.toLine ch l line
  obtain rfl : n = m := Option.some.inj (names.symm.trans mapped)
  exact back

/-! ### One dispatch (R32, R35) -/

theorem Channel.dispatched_state (c : Channel) : c.dispatched.state = .running := by
  unfold Channel.dispatched
  split <;> rfl

theorem Channel.dispatched_mappedLine (c : Channel) : c.dispatched.mappedLine = c.mappedLine := by
  unfold Channel.dispatched
  split <;> rfl

/-- PENDING to SERVING leaves every mapping as it is (R41). -/
theorem serveLine_mapping (s : State) (c : Channel) (l : LineNo) :
    ((s.serveLine c).line l).mapping = (s.line l).mapping := by
  unfold State.serveLine
  split
  · simp only [State.line, setLine_lines, Table.row_put]
    split
    · next here => rw [here]
    · rfl
  · rfl

theorem dispatchHead_of_sound {s : State} {ch : ChannelNo} (owned : (s.channel ch).owner.isSome)
    (loaded : (s.channel ch).loaded.isSome) (sound : s.LinesSound) (e : EngineNo) (k : SchedClass)
    (rest : List ChannelNo) :
    ((s.dispatchHead e k ch rest).channel ch).state = .running ∧
      (s.dispatchHead e k ch rest).trigger = (s.trigger.setQueue k rest).countSkips k := by
  obtain ⟨p, owner⟩ := Option.isSome_iff_exists.1 owned
  obtain ⟨ld, program⟩ := Option.isSome_iff_exists.1 loaded
  simp only [State.dispatchHead, owner, program]
  set c := s.channel ch
  set t := (s.setTrigger ((s.trigger.setQueue k rest).countSkips k)).serveLine c with ht
  set u := (t.setChannel ch c.dispatched).startUnit e
    (workOf ch p ld (c.dispatched.origin.getD .credit))
  have record : u.channel ch = c.dispatched := by simp [u, State.channel]
  have mappings (l : LineNo) : (u.line l).mapping = (s.line l).mapping := by
    have lines : u.line l = t.line l := by simp [u, State.line]
    rw [lines, ht, serveLine_mapping]
    rfl
  have triggers : u.trigger = (s.trigger.setQueue k rest).countSkips k := by simp [u, t]
  rw [← triggers]
  refine channelAble_of_running (by rw [record, Channel.dispatched_state]) fun l m line mapped => ?_
  rw [record, Channel.dispatched_mappedLine] at line
  exact sound.channel_of_mapping line ((mappings l).symm.trans mapped)

theorem idleEngine_of_idle {s : State} {e : EngineNo} (idle : (s.engine e).phase = .idle) :
    ∃ f, s.idleEngine = some f := by
  rw [← Option.isSome_iff_exists, State.idleEngine, List.find?_isSome]
  exact ⟨e, List.mem_finRange e, by simp [idle]⟩

theorem exec_dispatch {s : State} {f : EngineNo} {k : SchedClass} {ch : ChannelNo}
    {rest : List ChannelNo} (engine : s.idleEngine = some f) (chosen : s.trigger.choose = some k)
    (queue : s.trigger.queue k = ch :: rest) :
    exec .dispatch s = .next (s.dispatchHead f k ch rest) := by
  change execDispatch s = _
  simp only [execDispatch, engine, chosen, queue]

end Sys2Proof.Machine

open Sys2Proof Sys2Proof.Machine

/-- Settles O30: the class is the one the arbiter chooses, whose queue holds a channel; what follows the
counting of the skips in the same happening leaves the Trigger Unit alone, because the line of the
dispatched channel names that channel and it is RUNNING by then. -/
theorem classChoiceAndSkipCounters : Obligations.ClassChoiceAndSkipCounters := by
  intro s e idle t queued k
  have chosen : t.choose = some k := TriggerUnit.choose_of_some_queued queued
  obtain ⟨ch, rest, queue⟩ :=
    List.exists_cons_of_ne_nil (TriggerUnit.queue_ne_nil_of_choose chosen)
  obtain ⟨f, engine⟩ := idleEngine_of_idle idle
  refine ⟨ch, rest, queue, fun owned loaded sound =>
    ⟨_, exec_dispatch engine chosen queue, ?_⟩⟩
  obtain ⟨running, trigger⟩ := dispatchHead_of_sound owned loaded sound f k rest
  rw [trigger]
  refine ⟨running, ?_, fun j other => ?_, ?_, ?_⟩
  · rw [TriggerUnit.queue_countSkips, TriggerUnit.queue_setQueue, if_pos rfl]
  · rw [TriggerUnit.queue_countSkips, TriggerUnit.queue_setQueue, if_neg other]
  · rw [TriggerUnit.normalSkip_countSkips, TriggerUnit.setQueue_normalSkip]
  · rw [TriggerUnit.bulkSkip_countSkips, TriggerUnit.setQueue_bulkSkip]

end

section
/-! PROOFS. MAP_LINE and UNMAP_LINE: the checks one by one, the join and the separation of a line and a
channel, and hand-offs that a line's trigger neither reads nor changes. -/

namespace Sys2Proof.Machine

variable (s : State)

/-! ### Arguments (R163) -/

theorem channelArg_of_ge {w : Word} (h : 64 ≤ w.toNat) : channelArg w = none := by
  simp [channelArg, h]

theorem lineArg_of_toNat_eq {w : Word} {n : LineNo} (h : w.toNat = n.val) : lineArg w = some n := by
  simp [lineArg, h]

theorem lineArg_of_ge {w : Word} (h : 16 ≤ w.toNat) : lineArg w = none := by
  simp [lineArg, h]

/-- An argument below 16 names the line of that number. -/
theorem lineArg_of_lt {w : Word} (h : w.toNat < 16) : lineArg w = some ⟨w.toNat, h⟩ :=
  lineArg_of_toNat_eq rfl

/-! ### The run queues and the hand-offs -/

theorem joinQueue_setWires (w : Wires) (ch : ChannelNo) :
    (s.setWires w).joinQueue ch = (s.joinQueue ch).setWires w := by
  simp only [State.joinQueue, State.channel, setWires_channels]
  split <;> rfl

theorem writeChannel_setWires (w : Wires) (ch : ChannelNo) (c : Channel) :
    (s.setWires w).writeChannel ch c = (s.writeChannel ch c).setWires w := by
  have record : (s.setWires w).channel ch = s.channel ch := rfl
  simp only [State.writeChannel, record]
  split_ifs
  · rfl
  · exact joinQueue_setWires (s.setChannel ch c) w ch
  · rfl

theorem takeTrigger_setWires (w : Wires) (l : LineNo) :
    (s.setWires w).takeTrigger l = (s.takeTrigger l).setWires w := by
  have record (ch : ChannelNo) : (s.setWires w).channel ch = s.channel ch := rfl
  have line : (s.setWires w).line l = s.line l := rfl
  simp only [State.takeTrigger, record, line, setWires_req]
  split
  · rfl
  · split_ifs
    · exact writeChannel_setWires (s.setLine l _) w _ _
    · rfl

theorem takeTrigger_sendAnswer (p : Port) (a : Answer) (l : LineNo) :
    (s.sendAnswer p a).takeTrigger l = (s.takeTrigger l).sendAnswer p a := by
  simp [State.sendAnswer, takeTrigger_setWires]

/-! ### MAP_LINE (R45) -/

section
variable {s} {p : Port} {a : Table Word 8} {n : LineNo} {ch : ChannelNo}

theorem mapLineAct_of_offline (offline : s.online p = false) :
    mapLineAct p a s = (.plain .notOnline, s) := by
  simp [mapLineAct, offline]

theorem mapLineAct_of_bad_line (online : s.online p = true) (bad : 16 ≤ (a.row 0).toNat) :
    mapLineAct p a s = (.plain .badLine, s) := by
  simp [mapLineAct, online, lineArg_of_ge bad]

theorem mapLineAct_of_bad_channel (online : s.online p = true) (line : (a.row 0).toNat < 16)
    (bad : 64 ≤ (a.row 1).toNat) : mapLineAct p a s = (.plain .badChannel, s) := by
  simp [mapLineAct, online, lineArg_of_lt line, channelArg_of_ge bad]

theorem mapLineAct_of_not_owner (online : s.online p = true) (line : (a.row 0).toNat = n.val)
    (number : (a.row 1).toNat = ch.val) (owner : (s.channel ch).owner ≠ some p) :
    mapLineAct p a s = (.plain .notOwner, s) := by
  simp [mapLineAct, online, lineArg_of_toNat_eq line, channelArg_of_toNat_eq number, owner]

theorem mapLineAct_of_taken (online : s.online p = true) (line : (a.row 0).toNat = n.val)
    (number : (a.row 1).toNat = ch.val) (owner : (s.channel ch).owner = some p)
    (taken : (s.line n).state ≠ .unmapped ∨ (s.channel ch).mappedLine.isSome) :
    mapLineAct p a s = (.plain .lineTaken, s) := by
  simp only [mapLineAct, online, lineArg_of_toNat_eq line, channelArg_of_toNat_eq number, owner]
  by_cases mapped : (s.line n).state = .unmapped
  · simp [mapped, taken.resolve_left (not_not.2 mapped)]
  · simp [mapped]

theorem mapLineAct_of_joins (online : s.online p = true) (line : (a.row 0).toNat = n.val)
    (number : (a.row 1).toNat = ch.val) (owner : (s.channel ch).owner = some p)
    (unmapped : (s.line n).state = .unmapped) (single : (s.channel ch).mappedLine = none) :
    mapLineAct p a s =
      (.plain .ok,
        ((s.setLine n { s.line n with state := .waiting, mapping := some ⟨ch, p⟩ }).setChannel ch
          { s.channel ch with mappedLine := some n }).takeTrigger n) := by
  simp [mapLineAct, online, lineArg_of_toNat_eq line, channelArg_of_toNat_eq number, owner, unmapped,
    single]

end

theorem exec_mapLine (p : Port) : exec (.mapLine p) s = .next (ownerTakes .mapLine mapLineAct p s) :=
  rfl

theorem exec_mapLine_of_act {p : Port} {l : Latched} {rest : List Latched} {r : Reply} {t : State}
    (handed : s.handedOver p 0x28 l rest)
    (acts : mapLineAct p l.args (s.setHanded p rest) = (r, t)) :
    exec (.mapLine p) s = .next (t.sendAnswer p ⟨l.cycle, r⟩) := by
  have isMap : commandOf l.code = some .mapLine := by simp [commandOf, handed.2]
  rw [exec_mapLine, ownerTakes_of_act handed.1 isMap (unitOwned_eq_false isMap (by decide)) acts]

/-! ### A channel loses its line (R46, R14) -/

theorem writeChannel_of_loses_eligible {ch : ChannelNo} {c : Channel}
    (was : (s.channel ch).eligible = true) (loses : c.eligible = false) :
    s.writeChannel ch c = (s.setChannel ch c).leaveQueue ch := by
  simp [State.writeChannel, was, loses]

/-- Without its line a channel is as eligible as before, unless the pending trigger alone made it so. -/
theorem Channel.eligible_without_line {c : Channel}
    (other : ¬(c.state = .ready ∧ c.credit = 0 ∧ c.linePending = true)) :
    c.eligible = ({ c with mappedLine := none, linePending := false } : Channel).eligible := by
  by_cases ready : c.state = .ready
  · by_cases credit : c.credit = 0
    · simp_all [Channel.eligible]
    · simp [Channel.eligible, ready, Nat.pos_of_ne_zero credit]
  · simp [Channel.eligible, ready]

theorem unmap_of_mapping {l : LineNo} {m : Mapping} (mapped : (s.line l).mapping = some m) :
    let c := s.channel m.channel
    s.unmap l =
      { s with
        lines := s.lines.put l { s.line l with state := .unmapped, mapping := none }
        channels := s.channels.put m.channel { c with mappedLine := none, linePending := false }
        trigger :=
          if c.state = .ready ∧ c.credit = 0 ∧ c.linePending = true then s.trigger.leave m.channel
          else s.trigger } := by
  intro c
  let t := s.setLine l { s.line l with state := .unmapped, mapping := none }
  let d : Channel := { c with mappedLine := none, linePending := false }
  have unmaps : s.unmap l = t.writeChannel m.channel d := by
    simp only [State.unmap, mapped]
    rfl
  have record : t.channel m.channel = c := rfl
  rw [unmaps]
  by_cases alone : c.state = .ready ∧ c.credit = 0 ∧ c.linePending = true
  · obtain ⟨ready, credit, pending⟩ := alone
    have was : c.eligible = true := by simp [Channel.eligible, ready, pending]
    have loses : d.eligible = false := Channel.eligible_eq_false credit rfl
    rw [if_pos ⟨ready, credit, pending⟩, writeChannel_of_loses_eligible t (record ▸ was) loses]
    rfl
  · have same : c.eligible = d.eligible := Channel.eligible_without_line alone
    rw [if_neg alone, writeChannel_of_eligible_eq t (record ▸ same)]
    rfl

/-! ### UNMAP_LINE (R46) -/

section
variable {s} {p : Port} {a : Table Word 8} {n : LineNo} {ch : ChannelNo}

theorem unmapLineAct_of_offline (offline : s.online p = false) :
    unmapLineAct p a s = (.plain .notOnline, s) := by
  simp [unmapLineAct, offline]

theorem unmapLineAct_of_bad_line (online : s.online p = true) (bad : 16 ≤ (a.row 0).toNat) :
    unmapLineAct p a s = (.plain .badLine, s) := by
  simp [unmapLineAct, online, lineArg_of_ge bad]

theorem unmapLineAct_of_not_owner (online : s.online p = true) (line : (a.row 0).toNat = n.val)
    (other : ∀ ch, (s.line n).mapping ≠ some ⟨ch, p⟩) :
    unmapLineAct p a s = (.plain .notOwner, s) := by
  cases mapped : (s.line n).mapping with
  | none => simp [unmapLineAct, online, lineArg_of_toNat_eq line, mapped]
  | some m =>
    have port : m.port ≠ p := by
      rintro rfl
      exact other m.channel mapped
    simp [unmapLineAct, online, lineArg_of_toNat_eq line, mapped, port]

theorem unmapLineAct_of_mapped (online : s.online p = true) (line : (a.row 0).toNat = n.val)
    (mapped : (s.line n).mapping = some ⟨ch, p⟩) :
    unmapLineAct p a s = (.plain .ok, s.unmap n) := by
  simp [unmapLineAct, online, lineArg_of_toNat_eq line, mapped]

end

theorem exec_unmapLine (p : Port) :
    exec (.unmapLine p) s = .next (ownerTakes .unmapLine unmapLineAct p s) := rfl

theorem exec_unmapLine_of_act {p : Port} {l : Latched} {rest : List Latched} {r : Reply} {t : State}
    (handed : s.handedOver p 0x29 l rest)
    (acts : unmapLineAct p l.args (s.setHanded p rest) = (r, t)) :
    exec (.unmapLine p) s = .next (t.sendAnswer p ⟨l.cycle, r⟩) := by
  have isUnmap : commandOf l.code = some .unmapLine := by simp [commandOf, handed.2]
  rw [exec_unmapLine,
    ownerTakes_of_act handed.1 isUnmap (unitOwned_eq_false isUnmap (by decide)) acts]

end Sys2Proof.Machine

open Sys2Proof Sys2Proof.Machine

/-- Settles O25: by the first check that fails. When none fails, MAP_LINE's answer and the trigger of a
standing request do not touch each other, and UNMAP_LINE takes the channel from its run queue by whether
the pending trigger alone made it eligible. -/
theorem linesAreMappedAndUnmapped : Obligations.LinesAreMappedAndUnmapped := by
  constructor
  · intro s p l rest handed refuse
    have refusedBy {r : ResultCode}
        (acts : mapLineAct p l.args (s.setHanded p rest) = (.plain r, s.setHanded p rest)) :
        refuse r := exec_mapLine_of_act s handed acts
    refine ⟨fun offline => refusedBy (mapLineAct_of_offline offline),
      fun online bad => refusedBy (mapLineAct_of_bad_line online bad),
      fun online line bad => refusedBy (mapLineAct_of_bad_channel online line bad),
      fun n ch online line number => ⟨
        fun owner => refusedBy (mapLineAct_of_not_owner online line number owner),
        fun owner taken => refusedBy (mapLineAct_of_taken online line number owner taken),
        fun owner unmapped single => ?_⟩⟩
    rw [exec_mapLine_of_act s handed
      (mapLineAct_of_joins (s := s.setHanded p rest) online line number owner unmapped single),
      ← takeTrigger_sendAnswer]
    rfl
  · intro s p l rest handed refuse
    have refusedBy {r : ResultCode}
        (acts : unmapLineAct p l.args (s.setHanded p rest) = (.plain r, s.setHanded p rest)) :
        refuse r := exec_unmapLine_of_act s handed acts
    refine ⟨fun offline => refusedBy (unmapLineAct_of_offline offline),
      fun online bad => refusedBy (unmapLineAct_of_bad_line online bad),
      fun n online line => ⟨
        fun other => refusedBy (unmapLineAct_of_not_owner online line other),
        fun ch mapped => ?_⟩⟩
    intro c
    rw [exec_unmapLine_of_act s handed
      (unmapLineAct_of_mapped (s := s.setHanded p rest) online line mapped),
      unmap_of_mapping (s.setHanded p rest) mapped]
    rfl

end

section
/-! PROOFS. Result registers as sums of their fields, and the view of each kind of notice record (R166,
Table 10-9). -/

namespace Sys2Proof.Machine

/-! ### Packing by addition -/

theorem toNat_place {lo v : Nat} (fits : 2 ^ lo * v < 2 ^ 32) : (place lo v).toNat = 2 ^ lo * v := by
  have small : v < 2 ^ 32 := (Nat.le_mul_of_pos_left v (Nat.two_pow_pos lo)).trans_lt fits
  rw [place, BitVec.toNat_shiftLeft, BitVec.toNat_ofNat, Nat.mod_eq_of_lt small, Nat.shiftLeft_eq,
    Nat.mul_comm, Nat.mod_eq_of_lt fits]

/-- A field placed above everything a register holds adds to it. -/
theorem toNat_or_place {w : Word} {lo v : Nat} (below : w.toNat < 2 ^ lo)
    (fits : 2 ^ lo * v < 2 ^ 32) : (w ||| place lo v).toNat = w.toNat + 2 ^ lo * v := by
  rw [BitVec.toNat_or, toNat_place fits, Nat.or_comm, ← Nat.two_pow_add_eq_or_of_lt below,
    Nat.add_comm]

theorem toNat_place_zero (v : Nat) : (place 0 v).toNat = v % 2 ^ 32 := by
  simp [place]

theorem toNat_place_or_place {a b i : Nat} (first : a < 2 ^ i) (fits : a + 2 ^ i * b < 2 ^ 32) :
    (place 0 a ||| place i b).toNat = a + 2 ^ i * b := by
  have lowest : (place 0 a).toNat = a := by
    rw [toNat_place_zero, Nat.mod_eq_of_lt (by omega)]
  rw [toNat_or_place (by rwa [lowest]) (by omega), lowest]

theorem toNat_place_or_place_or_place {a b c i j : Nat} (first : a < 2 ^ i)
    (second : a + 2 ^ i * b < 2 ^ j) (fits : a + 2 ^ i * b + 2 ^ j * c < 2 ^ 32) :
    (place 0 a ||| place i b ||| place j c).toNat = a + 2 ^ i * b + 2 ^ j * c := by
  have lower : (place 0 a ||| place i b).toNat = a + 2 ^ i * b :=
    toNat_place_or_place first (by omega)
  rw [toNat_or_place (by rwa [lower]) (by omega), lower]

/-! ### Bounds of the codes (section 10.4) -/

theorem channelSubject_lt (ch : ChannelNo) : channelSubject ch < 2 ^ 8 := by
  unfold channelSubject
  omega

theorem domainValue_le (d : Domain) : domainValue d ≤ 1 := by cases d <;> decide

theorem apertureSubject_lt (d : Domain) (i : ApertureNo) : apertureSubject d i < 2 ^ 8 := by
  have := domainValue_le d
  unfold apertureSubject
  omega

theorem Origin.value_le (o : Origin) : o.value ≤ 1 := by cases o <;> decide

theorem FaultKind.value_le (k : FaultKind) : k.value ≤ 5 := by cases k <;> decide

theorem RefusalReason.value_le (r : RefusalReason) : r.value ≤ 2 := by cases r <;> decide

theorem Rights.value_le (r : Rights) : r.value ≤ 3 := by cases r <;> decide

theorem flag_le (b : Bool) : flag b ≤ 1 := by cases b <;> decide

theorem Notice.kind_le (n : Notice) : n.kind ≤ 10 := by
  unfold Notice.kind
  split <;> decide

/-! ### RES1 of each kind of record (Table 10-9) -/

section
variable (ch : ChannelNo) (o : Origin) (d : Domain) (i : ApertureNo) (generation : BitVec 8)

theorem toNat_res1_origin :
    (place 0 (channelSubject ch) ||| place 8 o.value).toNat = channelSubject ch + 2 ^ 8 * o.value := by
  have := o.value_le
  have := channelSubject_lt ch
  exact toNat_place_or_place (by omega) (by omega)

theorem toNat_res1_unusedCredit {unused : Nat} (credit : unused ≤ 15) :
    (place 0 (channelSubject ch) ||| place 8 o.value ||| place 12 unused).toNat =
      channelSubject ch + (2 ^ 8 * o.value + 2 ^ 12 * unused) := by
  have := o.value_le
  have := channelSubject_lt ch
  rw [← Nat.add_assoc]
  exact toNat_place_or_place_or_place (by omega) (by omega) (by omega)

theorem toNat_res1_fault (f : FaultRecord) :
    (place 0 (channelSubject ch) ||| place 8 f.kind.value ||| place 11 (domainValue f.domain)
      ||| place 12 (flag f.collateral)).toNat =
      channelSubject ch +
        (2 ^ 8 * f.kind.value + 2 ^ 11 * domainValue f.domain + 2 ^ 12 * flag f.collateral) := by
  have := f.kind.value_le
  have := domainValue_le f.domain
  have := flag_le f.collateral
  have := channelSubject_lt ch
  have lower : (place 0 (channelSubject ch) ||| place 8 f.kind.value
      ||| place 11 (domainValue f.domain)).toNat =
      channelSubject ch + 2 ^ 8 * f.kind.value + 2 ^ 11 * domainValue f.domain :=
    toNat_place_or_place_or_place (by omega) (by omega) (by omega)
  rw [toNat_or_place (by omega) (by omega), lower]
  omega

theorem toNat_res1_linkRefused (target : ChannelNo) (reason : RefusalReason) :
    (place 0 (channelSubject ch) ||| place 8 target.val ||| place 14 reason.value).toNat =
      channelSubject ch + (2 ^ 8 * target.val + 2 ^ 14 * reason.value) := by
  have := reason.value_le
  have := channelSubject_lt ch
  rw [← Nat.add_assoc]
  exact toNat_place_or_place_or_place (by omega) (by omega) (by omega)

theorem toNat_res1_generation :
    (place 0 (apertureSubject d i) ||| place 8 generation.toNat).toNat =
      apertureSubject d i + 2 ^ 8 * generation.toNat := by
  have := generation.isLt
  have := apertureSubject_lt d i
  exact toNat_place_or_place (by omega) (by omega)

theorem toNat_res1_rights (rights : Rights) :
    (place 0 (apertureSubject d i) ||| place 8 generation.toNat ||| place 16 rights.value).toNat =
      apertureSubject d i + (2 ^ 8 * generation.toNat + 2 ^ 16 * rights.value) := by
  have := rights.value_le
  have := generation.isLt
  have := apertureSubject_lt d i
  rw [← Nat.add_assoc]
  exact toNat_place_or_place_or_place (by omega) (by omega) (by omega)

end

/-! ### The whole record -/

theorem noticeView_rows (x : NoticeRecord) :
    (noticeView x).row 0 =
        place 0 x.notice.kind ||| place 8 x.repeats ||| place 16 x.sequence.toNat ∧
      (noticeView x).row 1 = x.notice.body.1 ∧ (noticeView x).row 2 = x.notice.body.2.1 ∧
      (noticeView x).row 3 = x.notice.body.2.2 :=
  results_row _ _ _ _

theorem toNat_noticeView_row_zero {x : NoticeRecord} (counted : x.repeats ≤ 255) :
    ((noticeView x).row 0).toNat =
      x.notice.kind + 2 ^ 8 * x.repeats + 2 ^ 16 * x.sequence.toNat := by
  have := x.notice.kind_le
  have := x.sequence.isLt
  rw [(noticeView_rows x).1]
  exact toNat_place_or_place_or_place (by omega) (by omega) (by omega)

theorem shownIn_noticeView {x : NoticeRecord} (counted : x.repeats ≤ 255) :
    x.ShownIn (noticeView x) := by
  have head := toNat_noticeView_row_zero counted
  obtain ⟨-, row1, row2, row3⟩ := noticeView_rows x
  obtain ⟨n, sequence, repeats⟩ := x
  simp only [NoticeRecord.ShownIn, row1, row2, row3]
  obtain n | n := n
  · cases n with
    | unitDone ch remaining done o =>
      exact ⟨head, toNat_res1_origin ch o, toNat_place_zero remaining, toNat_place_zero done⟩
    | channelDone ch remaining done o unused =>
      exact fun credit => ⟨head, toNat_res1_unusedCredit ch o credit, toNat_place_zero remaining,
        toNat_place_zero done⟩
    | aborted ch remaining done o =>
      exact ⟨head, toNat_res1_origin ch o, toNat_place_zero remaining, toNat_place_zero done⟩
    | fault ch f =>
      exact ⟨head, toNat_res1_fault ch f, (Nat.mod_eq_of_lt f.address.isLt).symm,
        toNat_place_zero f.index⟩
  · cases n with
    | linkRefused source target reason =>
      exact ⟨head, toNat_res1_linkRefused source target reason, rfl, rfl⟩
    | apertureOffered d i generation base pages rights =>
      exact ⟨head, toNat_res1_rights d i generation rights, (Nat.mod_eq_of_lt base.isLt).symm,
        toNat_place_zero pages⟩
    | apertureWithdrawn d i generation =>
      exact ⟨head, toNat_res1_generation d i generation, rfl, rfl⟩
    | revokeDone d i generation =>
      exact ⟨head, toNat_res1_generation d i generation, rfl, rfl⟩
    | peerLost => exact ⟨head, rfl, rfl, rfl⟩
    | peerReady => exact ⟨head, rfl, rfl, rfl⟩

end Sys2Proof.Machine
end

section
/-! PROOFS. The Notice Unit: the key of a system notice, its place in the queue or the Deferred Set, and
the refill of a pop. -/

namespace Sys2Proof.Machine

/-! ### Kind and subject of a system notice (R139, R166) -/

/-- The subject byte of Table 10-9; the last two kinds have none. -/
def SystemNotice.subject : SystemNotice → Nat
  | .linkRefused source _ _ => channelSubject source
  | .apertureOffered d i _ _ _ _ => apertureSubject d i
  | .apertureWithdrawn d i _ => apertureSubject d i
  | .revokeDone d i _ => apertureSubject d i
  | .peerLost => 0
  | .peerReady => 0

theorem SystemNotice.subject_lt (x : SystemNotice) : x.subject < 2 ^ 8 := by
  cases x with
  | linkRefused source target reason => exact channelSubject_lt source
  | apertureOffered d i generation base pages rights => exact apertureSubject_lt d i
  | apertureWithdrawn d i generation => exact apertureSubject_lt d i
  | revokeDone d i generation => exact apertureSubject_lt d i
  | peerLost => decide
  | peerReady => decide

/-- Every other field of RES1 stands above the subject byte. -/
theorem toNat_body_eq_subject_add (x : SystemNotice) :
    ∃ above, (Notice.system x).body.1.toNat = x.subject + 2 ^ 8 * above := by
  cases x with
  | linkRefused source target reason =>
    exact ⟨target.val + 2 ^ 6 * reason.value,
      (toNat_res1_linkRefused source target reason).trans (by rw [SystemNotice.subject]; omega)⟩
  | apertureOffered d i generation base pages rights =>
    exact ⟨generation.toNat + 2 ^ 8 * rights.value,
      (toNat_res1_rights d i generation rights).trans (by rw [SystemNotice.subject]; omega)⟩
  | apertureWithdrawn d i generation =>
    exact ⟨generation.toNat, toNat_res1_generation d i generation⟩
  | revokeDone d i generation => exact ⟨generation.toNat, toNat_res1_generation d i generation⟩
  | peerLost => exact ⟨0, rfl⟩
  | peerReady => exact ⟨0, rfl⟩

theorem field_body_eq_subject (x : SystemNotice) :
    field (Notice.system x).body.1.toNat 0 8 = x.subject := by
  obtain ⟨above, sum⟩ := toNat_body_eq_subject_add x
  have := x.subject_lt
  rw [field, sum]
  omega

theorem channelSubject_inj {x y : ChannelNo} : channelSubject x = channelSubject y ↔ x = y := by
  rw [channelSubject, channelSubject, Nat.add_left_cancel_iff, Fin.ext_iff]

theorem domainValue_inj {d e : Domain} : domainValue d = domainValue e ↔ d = e := by
  cases d <;> cases e <;> decide

theorem apertureSubject_inj {d e : Domain} {i j : ApertureNo} :
    apertureSubject d i = apertureSubject e j ↔ d = e ∧ i = j := by
  rw [← domainValue_inj, Fin.ext_iff]
  unfold apertureSubject
  omega

theorem SystemNotice.sameKey_iff (x y : SystemNotice) :
    x.sameKey y = true ↔
      (Notice.system x).kind = (Notice.system y).kind ∧ x.subject = y.subject := by
  cases x <;> cases y <;>
    simp [SystemNotice.sameKey, Notice.kind, SystemNotice.subject, channelSubject_inj,
      apertureSubject_inj]

/-! ### Placing a system notice (R138) -/

/-- The first entry of the notice's key takes its fields and keeps its place (R139). -/
theorem mergeDeferred_of_first {n : SystemNotice} {x y : List Deferred} {z : Deferred}
    (key : z.notice.sameKey n = true) (first : ∀ v ∈ x, v.notice.sameKey n = false) :
    mergeDeferred n (x ++ z :: y) = some (x ++ ⟨n, min 255 (z.repeats + 1)⟩ :: y) := by
  induction x with
  | nil => simp [mergeDeferred, key, Config.repeatMax]
  | cons v vs ih =>
    obtain ⟨other, others⟩ := List.forall_mem_cons.1 first
    simp [mergeDeferred, other, ih others]

theorem mergeDeferred_of_no_entry {n : SystemNotice} {ds : List Deferred}
    (others : ∀ v ∈ ds, v.notice.sameKey n = false) : mergeDeferred n ds = none := by
  induction ds with
  | nil => rfl
  | cons v vs ih =>
    obtain ⟨other, others⟩ := List.forall_mem_cons.1 others
    simp [mergeDeferred, other, ih others]

section
variable {u : NoticeUnit} {n : SystemNotice}

theorem placeSystem_of_room (room : u.queue.length < 32) :
    u.placeSystem n = u.enter (.system n) 1 := if_pos room

theorem placeSystem_of_full (full : 32 ≤ u.queue.length) :
    u.placeSystem n =
      { u with deferred := (mergeDeferred n u.deferred).getD (u.deferred ++ [⟨n, 1⟩]) } := by
  have no_room : ¬u.queue.length < Config.queueSize := Nat.not_lt.2 full
  rw [NoticeUnit.placeSystem, if_neg no_room]
  cases mergeDeferred n u.deferred <;> rfl

end

theorem exec_systemNoticePosting {s : State} {p : Port} {before after : List SystemNotice}
    {n : SystemNotice} (postings : s.wires.postings.get p = before ++ n :: after) :
    exec (.systemNoticePosting p before.length) s =
      .next
        ((s.setWires
          { s.wires with postings := s.wires.postings.set p (before ++ after) }).takePosting p n) := by
  change execSystemNoticePosting p before.length s = _
  rw [execSystemNoticePosting, postings, takeAt_append]

theorem takePosting_of_offline {s : State} {p : Port} (offline : s.online p = false)
    (n : SystemNotice) : s.takePosting p n = s := by
  simp [State.takePosting, offline]

theorem takePosting_of_online {s : State} {p : Port} (online : s.online p = true)
    (n : SystemNotice) :
    s.takePosting p n = s.setNoticeUnit p ((s.noticeUnit p).placeSystem n) := if_pos online

end Sys2Proof.Machine

open Sys2Proof Sys2Proof.Machine

/-- Settles O51: by the session, then by the room in the queue, then by whether some deferred entry has
the notice's key. -/
theorem systemNoticesQueueMergeOrDefer : Obligations.SystemNoticesQueueMergeOrDefer := by
  refine ⟨fun x y => ?_, fun s p before after n postings => ?_⟩
  · rw [field_body_eq_subject, field_body_eq_subject]
    exact x.sameKey_iff y
  intro u q placed
  have takes : exec (.systemNoticePosting p before.length) s = .next (u.takePosting p n) :=
    exec_systemNoticePosting postings
  have placedAs {x : NoticeUnit} (online : s.online p = true) (places : q.placeSystem n = x) :
      placed x := by
    change exec _ s = _
    rw [takes, takePosting_of_online (s := u) online, ← places]
    rfl
  refine ⟨fun offline => ?_, fun online room => placedAs online (placeSystem_of_room room),
    fun online full => ⟨fun x y z entries key first => placedAs online ?_,
      fun others => placedAs online ?_⟩⟩
  · rw [takes, takePosting_of_offline (s := u) offline]
  · rw [placeSystem_of_full full, entries, mergeDeferred_of_first key first, Option.getD_some]
  · rw [placeSystem_of_full full, mergeDeferred_of_no_entry others, Option.getD_none]

end

section
/-! PROOFS. POP_NOTICE: the refill by its first case that applies, and the channel that a released
notice lets go on. -/

namespace Sys2Proof.Machine

/-! ### The refill (R142) -/

section
variable {u : NoticeUnit}

theorem refill_of_deferred {y : Deferred} {ys : List Deferred} (deferred : u.deferred = y :: ys) :
    u.refill = (({ u with deferred := ys }).enter (.system y.notice) y.repeats, none) := by
  simp only [NoticeUnit.refill, deferred]

theorem refill_of_parked {y : Parked} {ys : List Parked} (deferred : u.deferred = [])
    (parking : u.parking = y :: ys) (room : u.queue.length < 28) :
    u.refill = (({ u with parking := ys }).enter (.channel y.notice) 1, some y.channel) := by
  simp only [NoticeUnit.refill, deferred, parking, Config.channelRoom, if_pos room]

theorem refill_of_nothing (deferred : u.deferred = [])
    (waits : u.parking = [] ∨ 28 ≤ u.queue.length) : u.refill = (u, none) := by
  obtain parking | full := waits
  · simp only [NoticeUnit.refill, deferred, parking]
  · cases parking : u.parking with
    | nil => simp only [NoticeUnit.refill, deferred, parking]
    | cons y ys =>
      simp only [NoticeUnit.refill, deferred, parking, Config.channelRoom, if_neg (Nat.not_lt.2 full)]

end

/-! ### One pop -/

section
variable {s : State} {p : Port} {a : Table Word 8} {x : NoticeRecord} {xs : List NoticeRecord}
  {u : NoticeUnit}

theorem popNoticeAct_of_offline (offline : s.online p = false) :
    popNoticeAct p a s = (.plain .notOnline, s) := by
  simp [popNoticeAct, offline]

theorem popNoticeAct_of_empty (online : s.online p = true) (queue : (s.noticeUnit p).queue = []) :
    popNoticeAct p a s = (.plain .queueEmpty, s) := by
  simp [popNoticeAct, online, queue]

theorem popNoticeAct_of_refill (online : s.online p = true)
    (queue : (s.noticeUnit p).queue = x :: xs)
    (refills : ({ s.noticeUnit p with queue := xs } : NoticeUnit).refill = (u, none)) :
    popNoticeAct p a s = (⟨.ok, noticeView x⟩, s.setNoticeUnit p u) := by
  simp [popNoticeAct, online, queue, refills]

theorem unparkChannel_of_afterState {ch : ChannelNo} {next : AfterState}
    (after : (s.channel ch).afterState = some next) :
    s.unparkChannel ch = s.setChannel ch ((s.channel ch).settled next) := by
  simp only [State.unparkChannel, after]

theorem popNoticeAct_of_release {ch : ChannelNo} {next : AfterState} (online : s.online p = true)
    (queue : (s.noticeUnit p).queue = x :: xs)
    (refills : ({ s.noticeUnit p with queue := xs } : NoticeUnit).refill = (u, some ch))
    (after : (s.channel ch).afterState = some next) :
    popNoticeAct p a s =
      (⟨.ok, noticeView x⟩,
        (s.setNoticeUnit p u).setChannel ch ((s.channel ch).settled next)) := by
  have releases := unparkChannel_of_afterState (s := s.setNoticeUnit p u) after
  simp only [popNoticeAct, online, queue, refills, releases]
  rfl

end

theorem exec_popNotice (p : Port) (s : State) :
    exec (.popNotice p) s = .next (ownerTakes .popNotice popNoticeAct p s) := rfl

theorem exec_popNotice_of_act {s t : State} {p : Port} {l : Latched} {rest : List Latched} {r : Reply}
    (handed : s.handedOver p 0x40 l rest)
    (acts : popNoticeAct p l.args (s.setHanded p rest) = (r, t)) :
    exec (.popNotice p) s = .next (t.sendAnswer p ⟨l.cycle, r⟩) := by
  have isPop : commandOf l.code = some .popNotice := by simp [commandOf, handed.2]
  rw [exec_popNotice,
    ownerTakes_of_act handed.1 isPop (unitOwned_eq_false isPop (by decide)) acts]

end Sys2Proof.Machine

open Sys2Proof Sys2Proof.Machine

/-- Settles O52: by the session and the queue, then by the first case of the refill; only a release from
parking writes a channel record. -/
theorem popAnswersHeadAndRefills : Obligations.PopAnswersHeadAndRefills := by
  intro s p l rest handed q
  refine ⟨fun offline => ?_, fun online queue => ?_,
    fun x xs online queue => ⟨noticeView x, shownIn_noticeView, ?_⟩⟩
  · rw [exec_popNotice_of_act handed (popNoticeAct_of_offline offline), setHanded_sendAnswer]
  · rw [exec_popNotice_of_act handed (popNoticeAct_of_empty online queue), setHanded_sendAnswer]
  intro popped
  have refilled {u : NoticeUnit}
      (refills : ({ q with queue := xs } : NoticeUnit).refill = (u, none)) :
      exec (.popNotice p) s = .next (popped u) :=
    exec_popNotice_of_act handed
      (popNoticeAct_of_refill (s := s.setHanded p rest) online queue refills)
  refine ⟨fun y ys deferred => refilled (refill_of_deferred deferred),
    fun deferred waits => refilled (refill_of_nothing deferred waits),
    fun y ys a deferred parking room after => ?_⟩
  rw [exec_popNotice_of_act handed
    (popNoticeAct_of_release (s := s.setHanded p rest) online queue
      (refill_of_parked deferred parking room) after)]
  cases a <;> rfl

end

section
/-! PROOFS. Which parts of the hub's state each command can change: one table, and one frame theorem that
every later proof about all commands goes through. -/

namespace Sys2Proof.Machine

/-! ### The parts of the state -/

/-- The parts of the state by which the conditions of Safety.lean are stated: the blocks' records, the
hand-offs that a condition counts, and the inputs and clock. -/
inductive Block where
  | channels | tableClearing | trigger | lines | engines | pool | apertures | masters | notices | ports
  | reports | apertureWords | admissions | req | prst | clock | freeCount | pending
  deriving DecidableEq

/-- The part stands in the second state as it did in the first. -/
@[simp] def Block.same (s t : State) : Block → Prop
  | .channels => t.channels = s.channels
  | .tableClearing => t.tableClearing = s.tableClearing
  | .trigger => t.trigger = s.trigger
  | .lines => t.lines = s.lines
  | .engines => t.engines = s.engines
  | .pool => t.pool = s.pool
  | .apertures => t.apertures = s.apertures
  | .masters => t.masters = s.masters
  | .notices => t.notices = s.notices
  | .ports => t.ports = s.ports
  | .reports => t.wires.reports = s.wires.reports
  | .apertureWords => t.wires.aperture = s.wires.aperture
  | .admissions => t.wires.admissions = s.wires.admissions
  | .req => t.req = s.req
  | .prst => t.prst = s.prst
  | .clock => t.clock = s.clock
  | .freeCount => t.freeCount = s.freeCount
  | .pending => t.pending = s.pending

/-- Nothing changes from the first state to the second but the parts listed. -/
def State.Same (s t : State) (written : List Block) : Prop := ∀ b, b ∉ written → b.same s t

theorem State.Same.refl (s : State) (written : List Block) : s.Same s written := by
  intro b _
  cases b <;> rfl

theorem State.Same.trans {s t u : State} {written : List Block} (first : s.Same t written)
    (second : t.Same u written) : s.Same u written := by
  intro b quiet
  have one := first b quiet
  have two := second b quiet
  cases b <;> exact two.trans one

/-! ### What each command writes -/

/-- The parts a command can change. -/
@[simp] def writesOf : Instr → List Block
  | .announce _ | .detach _ | .unknownCommandCode _ | .commandAnswer _ _ | .cmdWriteDropped _ _
  | .pstatWrite _ _ | .registerWrite _ _ _ | .commandLatch _ _ | .teardownReport _ _
  | .readEngines _ _ => [.ports]
  | .readChannel _ | .queryTable _ | .readEnginesPart _ _ => []
  | .claim _ | .load _ | .resume _ | .start _ | .linkDelivery _ | .lineReturn _ | .linePendingDrop _
  | .lineChannelAble _ | .abort _ | .mapLine _ | .unmapLine _ | .triggerUnitTeardown _ =>
    [.channels, .trigger, .lines]
  | .reqAsserted _ | .reqDeasserted _ => [.channels, .trigger, .lines, .req]
  | .release _ => [.channels, .trigger, .lines, .notices]
  | .channelTableTeardown _ => [.channels, .trigger, .lines, .notices, .tableClearing]
  | .faultMessage _ => [.channels, .trigger, .reports]
  | .unitEndReport _ | .stopReport _ =>
    [.channels, .trigger, .lines, .notices, .tableClearing, .reports]
  | .lineAcknowledge _ => [.lines]
  | .runQueueJoin _ => [.trigger]
  | .popNotice _ => [.channels, .notices]
  | .intenWrite _ _ | .systemNoticePosting _ _ | .noticeUnitClear _ => [.notices]
  | .openAperture _ | .revokeAperture _ | .queryAperture _ => [.apertures, .ports]
  | .admissionRequest _ => [.apertures, .apertureWords, .admissions]
  | .userEnd _ => [.apertures, .apertureWords]
  | .apertureUnitTeardown _ => [.apertures]
  | .setResponseLimit _ => [.masters]
  | .clearBus _ | .busAbandon _ => [.masters, .apertureWords]
  | .takeOffer _ => [.engines, .masters, .apertureWords]
  | .admissionAnswer _ => [.engines, .masters, .apertureWords, .admissions]
  | .busResponse _ _ => [.masters, .apertureWords, .freeCount]
  | .responseLimitExpiry _ _ => [.masters, .clock]
  | .dispatch => [.channels, .trigger, .lines, .engines, .pool]
  | .roomRequest _ | .confirmedBytes _ => [.engines, .pool]
  | .lineRelease _ | .admissionRefusal _ _ | .offerReturned _ _ | .readResponseOkay _ _
  | .writeResponseOkay _ _ | .responseError _ _ | .transactionFailure _ _ | .stopCauseAbort _
  | .stopCauseTeardown _ => [.engines, .pool, .reports]
  | .prstxAsserted _ => [.ports, .prst]
  | .prstxReleased _ => [.prst]
  | .powerOnReset =>
    [.channels, .tableClearing, .trigger, .lines, .engines, .pool, .apertures, .masters, .notices,
      .ports, .reports, .apertureWords, .admissions]

/-! ### Commands taken by an owner -/

theorem ownerTakes_same {c : Command} {act : Act} {p : Port} {written : List Block} (s : State)
    (effect : ∀ a t, State.Same t (act p a t).2 written) :
    s.Same (ownerTakes c act p s) written := by
  refine ownerTakes_keeps (P := fun t => s.Same t written) (fun t ls h => h.trans ?_)
    (fun t a h => h.trans ?_) (fun a t h => h.trans (effect a t)) (.refl s written)
  all_goals
    intro b _
    cases b <;> rfl

theorem writeAnswer_same (s : State) (p : Port) (a : Answer) : s.Same (s.writeAnswer p a) [.ports] := by
  intro b quiet
  cases b <;> simp_all

theorem State.Same.mono {s t : State} {written more : List Block} (h : s.Same t written)
    (le : ∀ b ∈ written, b ∈ more) : s.Same t more :=
  fun b quiet => h b fun hb => quiet (le b hb)

theorem unitTakes_same {picks : Latched → Bool} {act : Act} {p : Port} {written : List Block}
    (s : State) (ports : Block.ports ∈ written)
    (effect : ∀ a t, State.Same t (act p a t).2 written) :
    s.Same (unitTakes picks act p s) written := by
  refine unitTakes_keeps (P := fun t => s.Same t written) (fun t ls h => h.trans ?_)
    (fun t a h => h.trans ((writeAnswer_same t p a).mono (by simpa using ports)))
    (fun a t h => h.trans (effect a t)) (.refl s written)
  intro b _
  cases b <;> rfl

theorem apertureTakes_same {c : Command} {act : Domain → Act} {p : Port} {written : List Block}
    (s : State) (ports : Block.ports ∈ written)
    (effect : ∀ d a t, State.Same t (act d p a t).2 written) :
    s.Same (apertureTakes c act p s) written := by
  refine apertureTakes_keeps (P := fun t => s.Same t written) (fun t ls h => h.trans ?_)
    (fun t a h => h.trans ?_)
    (fun t a h => h.trans ((writeAnswer_same t p a).mono (by simpa using ports)))
    (fun d a t h => h.trans (effect d a t)) (.refl s written)
  all_goals
    intro b _
    cases b <;> rfl

section
variable (p : Port) (a : Table Word 8) (s : State)

theorem claimAct_same : s.Same (claimAct p a s).2 (writesOf (.claim p)) := by
  intro b quiet
  unfold claimAct
  repeat' split
  all_goals cases b <;> simp_all

theorem releaseAct_same : s.Same (releaseAct p a s).2 (writesOf (.release p)) := by
  intro b quiet
  unfold releaseAct
  repeat' split
  all_goals cases b <;> simp_all

theorem loadAct_same : s.Same (loadAct p a s).2 (writesOf (.load p)) := by
  intro b quiet
  unfold loadAct
  repeat' split
  all_goals cases b <;> simp_all

theorem readChannelAct_same : (readChannelAct p a s).2 = s := by
  unfold readChannelAct
  repeat' split
  all_goals rfl

theorem queryTableAct_same : (queryTableAct p a s).2 = s := by
  unfold queryTableAct
  split <;> rfl

theorem startAct_same : s.Same (startAct p a s).2 (writesOf (.start p)) := by
  intro b quiet
  unfold startAct
  dsimp only
  repeat' split
  all_goals cases b <;> simp_all

theorem abortAct_same : s.Same (abortAct p a s).2 (writesOf (.abort p)) := by
  intro b quiet
  unfold abortAct
  dsimp only
  repeat' split
  all_goals cases b <;> simp_all

theorem resumeAct_same : s.Same (resumeAct p a s).2 (writesOf (.resume p)) := by
  intro b quiet
  unfold resumeAct
  dsimp only
  repeat' split
  all_goals cases b <;> simp_all

theorem mapLineAct_same : s.Same (mapLineAct p a s).2 (writesOf (.mapLine p)) := by
  intro b quiet
  unfold mapLineAct
  dsimp only
  repeat' split
  all_goals cases b <;> simp_all

theorem unmapLineAct_same : s.Same (unmapLineAct p a s).2 (writesOf (.unmapLine p)) := by
  intro b quiet
  unfold unmapLineAct
  repeat' split
  all_goals cases b <;> simp_all

theorem setResponseLimitAct_same :
    s.Same (setResponseLimitAct p a s).2 (writesOf (.setResponseLimit p)) := by
  intro b quiet
  unfold setResponseLimitAct
  dsimp only
  repeat' split
  all_goals cases b <;> simp_all

theorem clearBusAct_same : s.Same (clearBusAct p a s).2 (writesOf (.clearBus p)) := by
  intro b quiet
  unfold clearBusAct
  dsimp only
  repeat' split
  all_goals cases b <;> simp_all

theorem popNoticeAct_same : s.Same (popNoticeAct p a s).2 (writesOf (.popNotice p)) := by
  intro b quiet
  unfold popNoticeAct
  dsimp only
  repeat' split
  all_goals cases b <;> simp_all

theorem openApertureAct_same (d : Domain) :
    s.Same (openApertureAct d p a s).2 (writesOf (.openAperture p)) := by
  intro b quiet
  unfold openApertureAct
  repeat' split
  all_goals cases b <;> simp_all

theorem revokeApertureAct_same (d : Domain) :
    s.Same (revokeApertureAct d p a s).2 (writesOf (.revokeAperture p)) := by
  intro b quiet
  unfold revokeApertureAct
  dsimp only
  repeat' split
  all_goals cases b <;> simp_all

theorem queryApertureAct_same (d : Domain) : (queryApertureAct d p a s).2 = s := by
  unfold queryApertureAct
  split <;> rfl

theorem announceAct_same : s.Same (announceAct p a s).2 (writesOf (.announce p)) := by
  intro b quiet
  unfold announceAct
  repeat' split
  all_goals cases b <;> simp_all

theorem detachAct_same : s.Same (detachAct p a s).2 (writesOf (.detach p)) := by
  intro b quiet
  unfold detachAct
  repeat' split
  all_goals cases b <;> simp_all

end

/-! ### Happenings of the blocks themselves -/

theorem foldl_same {α : Type} {written : List Block} {f : State → α → State}
    (each : ∀ t x, State.Same t (f t x) written) (xs : List α) (s : State) :
    s.Same (xs.foldl f s) written :=
  foldl_keeps (P := fun t => s.Same t written) (fun t x h => h.trans (each t x)) xs (.refl s written)

theorem tearDownChannel_same (s : State) (p : Port) (ch : ChannelNo) :
    s.Same (s.tearDownChannel p ch) (writesOf (.channelTableTeardown p)) := by
  intro b quiet
  cases b <;> simp_all

theorem reportChannels_same (s : State) (p : Port) :
    s.Same (s.reportChannels p) (writesOf (.channelTableTeardown p)) := by
  intro b quiet
  cases b <;> simp_all

theorem unmapOf_same (s : State) (p : Port) (l : LineNo) :
    s.Same (s.unmapOf p l) (writesOf (.triggerUnitTeardown p)) := by
  intro b quiet
  cases b <;> simp_all

theorem dropFreed_sendField_same (s : State) (p : Port) :
    s.Same (s.dropFreed.sendField p .lines) (writesOf (.triggerUnitTeardown p)) := by
  intro b quiet
  cases b <;> simp_all

theorem revokeIfOpen_same (s : State) (p : Port) (i : ApertureNo) :
    s.Same (s.revokeIfOpen p i) (writesOf (.apertureUnitTeardown p)) := by
  intro b quiet
  cases b <;> simp_all

theorem reportApertures_same (s : State) (p : Port) :
    s.Same (s.reportApertures p) (writesOf (.apertureUnitTeardown p)) := by
  intro b quiet
  cases b <;> simp_all

@[simp] theorem dispatchHead_reports (s : State) (e : EngineNo) (k : SchedClass) (ch : ChannelNo)
    (rest : List ChannelNo) : (s.dispatchHead e k ch rest).wires.reports = s.wires.reports := by
  unfold State.dispatchHead
  dsimp only
  split <;> simp

@[simp] theorem take_admissions (s : State) (d : Domain) (e : EngineNo) (t : Txn) :
    (s.take d e t).wires.admissions = s.wires.admissions := rfl

@[simp] theorem abandon_admissions (s : State) (d : Domain) :
    (s.abandon d).wires.admissions = s.wires.admissions := by
  unfold State.abandon
  simp

/-- The happening answers a next state, in which nothing changed but the parts listed. -/
def EndsSame (s : State) (written : List Block) (r : Result) : Prop :=
  ∃ t, r = .next t ∧ s.Same t written

theorem execReadEngines_writes (p : Port) (g : GatherStep) (s : State) :
    EndsSame s (writesOf (.readEngines p g)) (execReadEngines p g s) := by
  unfold execReadEngines
  repeat' split
  all_goals
    refine ⟨_, rfl, fun b quiet => ?_⟩
    cases b <;> simp_all

theorem execReadEnginesPart_writes (p : Port) (src : PartSource) (s : State) :
    EndsSame s (writesOf (.readEnginesPart p src)) (execReadEnginesPart p src s) := by
  unfold execReadEnginesPart
  repeat' split
  all_goals
    refine ⟨_, rfl, fun b quiet => ?_⟩
    cases b <;> simp_all

theorem execCommandAnswer_writes (p : Port) (position : Nat) (s : State) :
    EndsSame s (writesOf (.commandAnswer p position)) (execCommandAnswer p position s) := by
  unfold execCommandAnswer
  repeat' split
  all_goals
    refine ⟨_, rfl, fun b quiet => ?_⟩
    cases b <;> simp_all

theorem execPstatWrite_writes (p : Port) (value : Word) (s : State) :
    EndsSame s (writesOf (.pstatWrite p value)) (execPstatWrite p value s) := by
  unfold execPstatWrite
  repeat' split
  all_goals
    refine ⟨_, rfl, fun b quiet => ?_⟩
    cases b <;> simp_all

theorem execIntenWrite_writes (p : Port) (value : Word) (s : State) :
    EndsSame s (writesOf (.intenWrite p value)) (execIntenWrite p value s) := by
  unfold execIntenWrite
  repeat' split
  all_goals
    refine ⟨_, rfl, fun b quiet => ?_⟩
    cases b <;> simp_all

theorem execRegisterWrite_writes (p : Port) (offset : BitVec 6) (value : Word) (s : State) :
    EndsSame s (writesOf (.registerWrite p offset value)) (execRegisterWrite p offset value s) := by
  unfold execRegisterWrite
  repeat' split
  all_goals
    refine ⟨_, rfl, fun b quiet => ?_⟩
    cases b <;> simp_all

theorem execReqDeasserted_writes (l : LineNo) (s : State) :
    EndsSame s (writesOf (.reqDeasserted l)) (execReqDeasserted l s) := by
  unfold execReqDeasserted
  dsimp only
  repeat' split
  all_goals
    refine ⟨_, rfl, fun b quiet => ?_⟩
    cases b <;> simp_all

theorem execLineAcknowledge_writes (l : LineNo) (s : State) :
    EndsSame s (writesOf (.lineAcknowledge l)) (execLineAcknowledge l s) := by
  unfold execLineAcknowledge
  repeat' split
  all_goals
    refine ⟨_, rfl, fun b quiet => ?_⟩
    cases b <;> simp_all

theorem execLineReturn_writes (l : LineNo) (s : State) :
    EndsSame s (writesOf (.lineReturn l)) (execLineReturn l s) := by
  unfold execLineReturn
  repeat' split
  all_goals
    refine ⟨_, rfl, fun b quiet => ?_⟩
    cases b <;> simp_all

theorem execLinePendingDrop_writes (l : LineNo) (s : State) :
    EndsSame s (writesOf (.linePendingDrop l)) (execLinePendingDrop l s) := by
  unfold execLinePendingDrop
  dsimp only
  repeat' split
  all_goals
    refine ⟨_, rfl, fun b quiet => ?_⟩
    cases b <;> simp_all

theorem execRunQueueJoin_writes (ch : ChannelNo) (s : State) :
    EndsSame s (writesOf (.runQueueJoin ch)) (execRunQueueJoin ch s) := by
  unfold execRunQueueJoin
  repeat' split
  all_goals
    refine ⟨_, rfl, fun b quiet => ?_⟩
    cases b <;> simp_all

theorem execDispatch_writes (s : State) :
    EndsSame s (writesOf .dispatch) (execDispatch s) := by
  unfold execDispatch
  repeat' split
  all_goals
    refine ⟨_, rfl, fun b quiet => ?_⟩
    cases b <;> simp_all

theorem execRoomRequest_writes (e : EngineNo) (s : State) :
    EndsSame s (writesOf (.roomRequest e)) (execRoomRequest e s) := by
  unfold execRoomRequest
  repeat' split
  all_goals
    refine ⟨_, rfl, fun b quiet => ?_⟩
    cases b <;> simp_all

theorem execLineRelease_writes (e : EngineNo) (s : State) :
    EndsSame s (writesOf (.lineRelease e)) (execLineRelease e s) := by
  unfold execLineRelease
  repeat' split
  all_goals
    refine ⟨_, rfl, fun b quiet => ?_⟩
    cases b <;> simp_all

theorem execTakeOffer_writes (d : Domain) (s : State) :
    EndsSame s (writesOf (.takeOffer d)) (execTakeOffer d s) := by
  unfold execTakeOffer
  repeat' split
  all_goals
    refine ⟨_, rfl, fun b quiet => ?_⟩
    cases b <;> simp_all

theorem execAdmissionRequest_writes (d : Domain) (s : State) :
    EndsSame s (writesOf (.admissionRequest d)) (execAdmissionRequest d s) := by
  unfold execAdmissionRequest
  dsimp only
  repeat' split
  all_goals
    refine ⟨_, rfl, fun b quiet => ?_⟩
    cases b <;> simp_all

theorem execAdmissionAnswer_writes (d : Domain) (s : State) :
    EndsSame s (writesOf (.admissionAnswer d)) (execAdmissionAnswer d s) := by
  unfold execAdmissionAnswer
  dsimp only
  repeat' split
  all_goals
    refine ⟨_, rfl, fun b quiet => ?_⟩
    cases b <;> simp_all

theorem execBusResponse_writes (d : Domain) (r : BusReply) (s : State) :
    EndsSame s (writesOf (.busResponse d r)) (execBusResponse d r s) := by
  unfold execBusResponse
  dsimp only
  repeat' split
  all_goals
    refine ⟨_, rfl, fun b quiet => ?_⟩
    cases b <;> simp_all

theorem execResponseLimitExpiry_writes (d : Domain) (position : Nat) (s : State) :
    EndsSame s (writesOf (.responseLimitExpiry d position)) (execResponseLimitExpiry d position s) := by
  unfold execResponseLimitExpiry
  repeat' split
  all_goals
    refine ⟨_, rfl, fun b quiet => ?_⟩
    cases b <;> simp_all

theorem execBusAbandon_writes (d : Domain) (s : State) :
    EndsSame s (writesOf (.busAbandon d)) (execBusAbandon d s) := by
  unfold execBusAbandon
  dsimp only
  repeat' split
  all_goals
    refine ⟨_, rfl, fun b quiet => ?_⟩
    cases b <;> simp_all

theorem execAdmissionRefusal_writes (d : Domain) (e : EngineNo) (s : State) :
    EndsSame s (writesOf (.admissionRefusal d e)) (execAdmissionRefusal d e s) := by
  unfold execAdmissionRefusal
  repeat' split
  all_goals
    refine ⟨_, rfl, fun b quiet => ?_⟩
    cases b <;> simp_all

theorem execOfferReturned_writes (d : Domain) (e : EngineNo) (s : State) :
    EndsSame s (writesOf (.offerReturned d e)) (execOfferReturned d e s) := by
  unfold execOfferReturned
  repeat' split
  all_goals
    refine ⟨_, rfl, fun b quiet => ?_⟩
    cases b <;> simp_all

theorem execLinkDelivery_writes (position : Nat) (s : State) :
    EndsSame s (writesOf (.linkDelivery position)) (execLinkDelivery position s) := by
  unfold execLinkDelivery
  repeat' split
  all_goals
    refine ⟨_, rfl, fun b quiet => ?_⟩
    cases b <;> simp_all

theorem execSystemNoticePosting_writes (p : Port) (position : Nat) (s : State) :
    EndsSame s (writesOf (.systemNoticePosting p position)) (execSystemNoticePosting p position s) := by
  unfold execSystemNoticePosting
  repeat' split
  all_goals
    refine ⟨_, rfl, fun b quiet => ?_⟩
    cases b <;> simp_all

theorem execUserEnd_writes (d : Domain) (s : State) :
    EndsSame s (writesOf (.userEnd d)) (execUserEnd d s) := by
  unfold execUserEnd
  repeat' split
  all_goals
    refine ⟨_, rfl, fun b quiet => ?_⟩
    cases b <;> simp_all

theorem execNoticeUnitClear_writes (p : Port) (s : State) :
    EndsSame s (writesOf (.noticeUnitClear p)) (execNoticeUnitClear p s) := by
  unfold execNoticeUnitClear
  dsimp only
  repeat' split
  all_goals
    refine ⟨_, rfl, fun b quiet => ?_⟩
    cases b <;> simp_all

theorem execTeardownReport_writes (p : Port) (field : TeardownField) (s : State) :
    EndsSame s (writesOf (.teardownReport p field)) (execTeardownReport p field s) := by
  unfold execTeardownReport
  repeat' split
  all_goals
    refine ⟨_, rfl, fun b quiet => ?_⟩
    cases b <;> simp_all

theorem execPrstxAsserted_writes (p : Port) (s : State) :
    EndsSame s (writesOf (.prstxAsserted p)) (execPrstxAsserted p s) := by
  unfold execPrstxAsserted
  dsimp only
  repeat' split
  all_goals
    refine ⟨_, rfl, fun b quiet => ?_⟩
    cases b <;> simp_all


/-! A word, report or cause that is taken leaves the parts but the one it stood in. -/

theorem takeEngineWord_same {s u : State} {d : Domain} {e : EngineNo} {b : EngineWordBody}
    (h : s.takeEngineWord d e = some (b, u)) (written : List Block) : s.Same u written := by
  unfold State.takeEngineWord at h
  split at h <;> cases h
  intro b _
  cases b <;> rfl

theorem takeCause_same {s u : State} {ch : ChannelNo} {c : SentCause} (h : s.takeCause ch c = some u)
    (written : List Block) : s.Same u written := by
  unfold State.takeCause at h
  split at h
  · split at h <;> cases h
    intro b _
    cases b <;> rfl
  · cases h

theorem takeReport_same {s u : State} {ch : ChannelNo} {b : ReportBody}
    (h : s.takeReport ch = some (b, u)) {written : List Block} (reports : Block.reports ∈ written) :
    s.Same u written := by
  unfold State.takeReport at h
  split at h <;> cases h
  intro b quiet
  cases b <;> simp_all

theorem execReadResponseOkay_writes (d : Domain) (e : EngineNo) (s : State) :
    EndsSame s (writesOf (.readResponseOkay d e)) (execReadResponseOkay d e s) := by
  unfold execReadResponseOkay
  split
  · next t data u taken =>
    split
    · refine ⟨_, rfl, (takeEngineWord_same taken _).trans fun b quiet => ?_⟩
      cases b <;> simp_all
    · exact ⟨s, rfl, .refl s _⟩
  · exact ⟨s, rfl, .refl s _⟩

theorem execWriteResponseOkay_writes (d : Domain) (e : EngineNo) (s : State) :
    EndsSame s (writesOf (.writeResponseOkay d e)) (execWriteResponseOkay d e s) := by
  unfold execWriteResponseOkay
  split
  · next t data u taken =>
    split
    · refine ⟨_, rfl, (takeEngineWord_same taken _).trans fun b quiet => ?_⟩
      cases b <;> simp_all
    · exact ⟨s, rfl, .refl s _⟩
  · exact ⟨s, rfl, .refl s _⟩

theorem execResponseError_writes (d : Domain) (e : EngineNo) (s : State) :
    EndsSame s (writesOf (.responseError d e)) (execResponseError d e s) := by
  unfold execResponseError
  split
  · next t u taken =>
    refine ⟨_, rfl, (takeEngineWord_same taken _).trans fun b quiet => ?_⟩
    cases b <;> simp_all
  · exact ⟨s, rfl, .refl s _⟩

theorem execTransactionFailure_writes (d : Domain) (e : EngineNo) (s : State) :
    EndsSame s (writesOf (.transactionFailure d e)) (execTransactionFailure d e s) := by
  unfold execTransactionFailure
  split
  · next k ts u taken =>
    refine ⟨_, rfl, (takeEngineWord_same taken _).trans fun b quiet => ?_⟩
    cases b <;> simp_all
  · exact ⟨s, rfl, .refl s _⟩

theorem execStopCauseAbort_writes (ch : ChannelNo) (s : State) :
    EndsSame s (writesOf (.stopCauseAbort ch)) (execStopCauseAbort ch s) := by
  unfold execStopCauseAbort
  split
  · next u taken =>
    refine ⟨_, rfl, (takeCause_same taken _).trans fun b quiet => ?_⟩
    cases b <;> simp_all
  · exact ⟨s, rfl, .refl s _⟩

theorem execStopCauseTeardown_writes (ch : ChannelNo) (s : State) :
    EndsSame s (writesOf (.stopCauseTeardown ch)) (execStopCauseTeardown ch s) := by
  unfold execStopCauseTeardown
  split
  · next u taken =>
    refine ⟨_, rfl, (takeCause_same taken _).trans fun b quiet => ?_⟩
    cases b <;> simp_all
  · exact ⟨s, rfl, .refl s _⟩

theorem execFaultMessage_writes (ch : ChannelNo) (s : State) :
    EndsSame s (writesOf (.faultMessage ch)) (execFaultMessage ch s) := by
  unfold execFaultMessage
  split
  · next u taken =>
    have same := takeReport_same taken (written := writesOf (.faultMessage ch)) (by simp)
    dsimp only
    split
    · refine ⟨_, rfl, same.trans fun b quiet => ?_⟩
      cases b <;> simp_all
    · exact ⟨u, rfl, same⟩
  · exact ⟨s, rfl, .refl s _⟩

theorem execUnitEndReport_writes (ch : ChannelNo) (s : State) :
    EndsSame s (writesOf (.unitEndReport ch)) (execUnitEndReport ch s) := by
  unfold execUnitEndReport
  split
  · next r origin u taken =>
    have same := takeReport_same taken (written := writesOf (.unitEndReport ch)) (by simp)
    split
    · refine ⟨_, rfl, same.trans fun b quiet => ?_⟩
      cases b <;> simp_all
    · refine ⟨_, rfl, same.trans fun b quiet => ?_⟩
      cases b <;> simp_all
    · exact ⟨u, rfl, same⟩
  · exact ⟨s, rfl, .refl s _⟩

theorem execStopReport_writes (ch : ChannelNo) (s : State) :
    EndsSame s (writesOf (.stopReport ch)) (execStopReport ch s) := by
  unfold execStopReport
  split
  · next r cause u taken =>
    have same := takeReport_same taken (written := writesOf (.stopReport ch)) (by simp)
    split
    · refine ⟨_, rfl, same.trans fun b quiet => ?_⟩
      cases b <;> simp_all
    · exact ⟨u, rfl, same⟩
  · exact ⟨s, rfl, .refl s _⟩

/-! The teardown directions, each a fold over a block's records. -/

theorem execChannelTableTeardown_writes (p : Port) (s : State) :
    EndsSame s (writesOf (.channelTableTeardown p)) (execChannelTableTeardown p s) := by
  unfold execChannelTableTeardown
  dsimp only
  split
  · let u := (s.setDirections p { s.wires.directions.get p with channelTable := false }).setTableClearing
      p true
    have begun : s.Same u (writesOf (.channelTableTeardown p)) := by
      intro b quiet
      cases b <;> simp_all [u]
    have torn := begun.trans
      (foldl_same (fun t ch => tearDownChannel_same t p ch) (List.finRange 64) u)
    exact ⟨_, rfl, torn.trans (reportChannels_same _ p)⟩
  · exact ⟨s, rfl, .refl s _⟩

theorem execTriggerUnitTeardown_writes (p : Port) (s : State) :
    EndsSame s (writesOf (.triggerUnitTeardown p)) (execTriggerUnitTeardown p s) := by
  unfold execTriggerUnitTeardown
  dsimp only
  split
  · let u := s.setDirections p { s.wires.directions.get p with triggerUnit := false }
    have begun : s.Same u (writesOf (.triggerUnitTeardown p)) := by
      intro b quiet
      cases b <;> simp_all [u]
    have torn := begun.trans (foldl_same (fun t l => unmapOf_same t p l) (List.finRange 16) u)
    exact ⟨_, rfl, torn.trans (dropFreed_sendField_same _ p)⟩
  · exact ⟨s, rfl, .refl s _⟩

theorem execApertureUnitTeardown_writes (p : Port) (s : State) :
    EndsSame s (writesOf (.apertureUnitTeardown p)) (execApertureUnitTeardown p s) := by
  unfold execApertureUnitTeardown
  dsimp only
  split
  · let t := s.setDirections p { s.wires.directions.get p with apertureUnit := false }
    let u := t.setApertureUnit p { t.apertureUnit p with clearing := true }
    have begun : s.Same u (writesOf (.apertureUnitTeardown p)) := by
      intro b quiet
      cases b <;> simp_all [u, t]
    have torn := begun.trans (foldl_same (fun t i => revokeIfOpen_same t p i) (List.finRange 8) u)
    exact ⟨_, rfl, torn.trans (reportApertures_same _ p)⟩
  · exact ⟨s, rfl, .refl s _⟩

/-- Every command answers a next state, and leaves every part it is not listed for. -/
theorem exec_writes (c : Instr) (s : State) : EndsSame s (writesOf c) (exec c s) := by
  cases c with
  | announce p => exact ⟨_, rfl, unitTakes_same s (by simp ) (announceAct_same p)⟩
  | detach p => exact ⟨_, rfl, unitTakes_same s (by simp ) (detachAct_same p)⟩
  | claim p => exact ⟨_, rfl, ownerTakes_same s (claimAct_same p)⟩
  | release p => exact ⟨_, rfl, ownerTakes_same s (releaseAct_same p)⟩
  | load p => exact ⟨_, rfl, ownerTakes_same s (loadAct_same p)⟩
  | readChannel p =>
    exact ⟨_, rfl, ownerTakes_same s fun a t => (readChannelAct_same p a t).symm ▸ .refl t _⟩
  | queryTable p =>
    exact ⟨_, rfl, ownerTakes_same s fun a t => (queryTableAct_same p a t).symm ▸ .refl t _⟩
  | start p => exact ⟨_, rfl, ownerTakes_same s (startAct_same p)⟩
  | abort p => exact ⟨_, rfl, ownerTakes_same s (abortAct_same p)⟩
  | resume p => exact ⟨_, rfl, ownerTakes_same s (resumeAct_same p)⟩
  | mapLine p => exact ⟨_, rfl, ownerTakes_same s (mapLineAct_same p)⟩
  | unmapLine p => exact ⟨_, rfl, ownerTakes_same s (unmapLineAct_same p)⟩
  | openAperture p =>
    exact ⟨_, rfl, apertureTakes_same s (by simp ) fun d a t => openApertureAct_same p a t d⟩
  | revokeAperture p =>
    exact ⟨_, rfl, apertureTakes_same s (by simp ) fun d a t => revokeApertureAct_same p a t d⟩
  | queryAperture p =>
    exact ⟨_, rfl, apertureTakes_same s (by simp ) fun d a t =>
      (queryApertureAct_same p a t d).symm ▸ .refl t _⟩
  | setResponseLimit p => exact ⟨_, rfl, ownerTakes_same s (setResponseLimitAct_same p)⟩
  | clearBus p => exact ⟨_, rfl, ownerTakes_same s (clearBusAct_same p)⟩
  | popNotice p => exact ⟨_, rfl, ownerTakes_same s (popNoticeAct_same p)⟩
  | unknownCommandCode p =>
    exact ⟨_, rfl, unitTakes_same s (by simp ) fun _ t => .refl t _⟩
  | readEngines p g => exact execReadEngines_writes p g s
  | readEnginesPart p src => exact execReadEnginesPart_writes p src s
  | commandAnswer p position => exact execCommandAnswer_writes p position s
  | pstatWrite p value => exact execPstatWrite_writes p value s
  | intenWrite p value => exact execIntenWrite_writes p value s
  | registerWrite p offset value => exact execRegisterWrite_writes p offset value s
  | reqDeasserted l => exact execReqDeasserted_writes l s
  | lineAcknowledge l => exact execLineAcknowledge_writes l s
  | lineReturn l => exact execLineReturn_writes l s
  | linePendingDrop l => exact execLinePendingDrop_writes l s
  | runQueueJoin ch => exact execRunQueueJoin_writes ch s
  | dispatch => exact execDispatch_writes s
  | roomRequest e => exact execRoomRequest_writes e s
  | lineRelease e => exact execLineRelease_writes e s
  | takeOffer d => exact execTakeOffer_writes d s
  | admissionRequest d => exact execAdmissionRequest_writes d s
  | admissionAnswer d => exact execAdmissionAnswer_writes d s
  | busResponse d r => exact execBusResponse_writes d r s
  | responseLimitExpiry d position => exact execResponseLimitExpiry_writes d position s
  | busAbandon d => exact execBusAbandon_writes d s
  | admissionRefusal d e => exact execAdmissionRefusal_writes d e s
  | offerReturned d e => exact execOfferReturned_writes d e s
  | linkDelivery position => exact execLinkDelivery_writes position s
  | systemNoticePosting p position => exact execSystemNoticePosting_writes p position s
  | userEnd d => exact execUserEnd_writes d s
  | noticeUnitClear p => exact execNoticeUnitClear_writes p s
  | teardownReport p field => exact execTeardownReport_writes p field s
  | prstxAsserted p => exact execPrstxAsserted_writes p s
  | cmdWriteDropped p code =>
    refine ⟨_, rfl, fun b quiet => ?_⟩
    cases b <;> simp_all
  | commandLatch p code =>
    refine ⟨_, rfl, fun b quiet => ?_⟩
    cases b <;> simp_all
  | reqAsserted l =>
    refine ⟨_, rfl, fun b quiet => ?_⟩
    cases b <;> simp_all
  | lineChannelAble l =>
    refine ⟨_, rfl, fun b quiet => ?_⟩
    cases b <;> simp_all
  | confirmedBytes e =>
    refine ⟨_, rfl, fun b quiet => ?_⟩
    cases b <;> simp_all
  | prstxReleased p =>
    refine ⟨_, rfl, fun b quiet => ?_⟩
    cases b <;> simp_all
  | powerOnReset =>
    refine ⟨_, rfl, fun b quiet => ?_⟩
    cases b <;> simp_all
  | channelTableTeardown p => exact execChannelTableTeardown_writes p s
  | triggerUnitTeardown p => exact execTriggerUnitTeardown_writes p s
  | apertureUnitTeardown p => exact execApertureUnitTeardown_writes p s
  | readResponseOkay d e => exact execReadResponseOkay_writes d e s
  | writeResponseOkay d e => exact execWriteResponseOkay_writes d e s
  | responseError d e => exact execResponseError_writes d e s
  | transactionFailure d e => exact execTransactionFailure_writes d e s
  | stopCauseAbort ch => exact execStopCauseAbort_writes ch s
  | stopCauseTeardown ch => exact execStopCauseTeardown_writes ch s
  | faultMessage ch => exact execFaultMessage_writes ch s
  | unitEndReport ch => exact execUnitEndReport_writes ch s
  | stopReport ch => exact execStopReport_writes ch s

/-- A part that a command is not listed for stands as it did. -/
theorem exec_frame {c : Instr} {s t : State} (h : exec c s = .next t) (b : Block)
    (quiet : b ∉ writesOf c) : b.same s t := by
  obtain ⟨u, hu, same⟩ := exec_writes c s
  cases hu.symm.trans h
  exact same b quiet

/-- A step is the command at the front of the schedule, or the idle step, which no part but the clock
and the schedule hears of. -/
theorem step_cases {s t : State} (h : step s = .next t) :
    t = { s with clock := s.clock + 1 } ∨
      ∃ c rest, s.pending = c :: rest ∧ exec c { s with pending := rest } = .next t := by
  unfold step at h
  split at h
  · cases h
    exact .inl rfl
  · next c rest queued => exact .inr ⟨c, rest, queued, h⟩

/-- A condition that neither the schedule nor the clock touches is kept by every step that runs a command
which keeps it. -/
theorem step_keeps {P : State → Prop} (schedule : ∀ s q, P s → P { s with pending := q })
    (clock : ∀ s n, P s → P { s with clock := n })
    (command : ∀ c s t, P s → exec c s = .next t → P t) {s t : State} (h : step s = .next t)
    (hs : P s) : P t := by
  obtain rfl | ⟨c, rest, -, ran⟩ := step_cases h
  · exact clock _ _ hs
  · exact command c _ t (schedule s rest hs) ran

/-! ### The clock and the inputs -/

theorem exec_clock_le {c : Instr} {s t : State} (h : exec c s = .next t) : s.clock ≤ t.clock := by
  by_cases quiet : Block.clock ∈ writesOf c
  · cases c with
    | responseLimitExpiry d position =>
      change execResponseLimitExpiry d position s = .next t at h
      unfold execResponseLimitExpiry at h
      repeat' split at h
      all_goals
        cases h
        simp [State.expireBus]
    | _ => simp at quiet
  · exact (exec_frame h .clock quiet).ge

theorem req_of_reqAsserted {l : LineNo} {s t : State} (h : exec (.reqAsserted l) s = .next t) :
    t.req = s.req.put l true := by
  cases h
  simp

theorem req_of_reqDeasserted {l : LineNo} {s t : State} (h : exec (.reqDeasserted l) s = .next t) :
    t.req = s.req.put l false := by
  change execReqDeasserted l s = .next t at h
  unfold execReqDeasserted at h
  dsimp only at h
  split at h <;> cases h <;> simp

theorem prst_of_prstxAsserted {p : Port} {s t : State} (h : exec (.prstxAsserted p) s = .next t) :
    t.prst = s.prst.set p true := by
  change execPrstxAsserted p s = .next t at h
  unfold execPrstxAsserted at h
  split at h
  · next asserted =>
    cases h
    exact (asserted ▸ s.prst.set_get_self p).symm
  · cases h
    simp

theorem prst_of_prstxReleased {p : Port} {s t : State} (h : exec (.prstxReleased p) s = .next t) :
    t.prst = s.prst.set p false := by
  cases h
  rfl

end Sys2Proof.Machine

open Sys2Proof Sys2Proof.Machine

/-- Settles O1: the step function by the two forms of the schedule. -/
theorem stepRunsFrontCommandOrIdles : Obligations.StepRunsFrontCommandOrIdles := by
  refine ⟨fun c rest s => rfl, fun s idle => ?_⟩
  rw [step, idle]

/-- Settles O2: from what each command writes; the clock and the input levels by the commands that are
listed for them. -/
theorem everyCommandCompletes : Obligations.EveryCommandCompletes := by
  intro c s
  obtain ⟨t, ran, same⟩ := exec_writes c s
  have schedule : Block.pending ∉ writesOf c := by cases c <;> simp
  refine ⟨t, ran, same .pending schedule, exec_clock_le ran, ?_, ?_⟩
  · cases c with
    | reqAsserted l => exact req_of_reqAsserted ran
    | reqDeasserted l => exact req_of_reqDeasserted ran
    | _ => exact same .req (by simp)
  · cases c with
    | prstxAsserted p => exact prst_of_prstxAsserted ran
    | prstxReleased p => exact prst_of_prstxReleased ran
    | _ => exact same .prst (by simp)

end

section
/-! PROOFS. Reading a record after a record was written: one rule for each pair of an accessor and a
setter. -/

namespace Sys2Proof.Machine

variable (s : State)

theorem channel_setChannel (ch x : ChannelNo) (c : Channel) :
    (s.setChannel ch c).channel x = if ch = x then c else s.channel x := Table.row_put _ _ _ _

@[simp] theorem channel_setChannel_self (ch : ChannelNo) (c : Channel) :
    (s.setChannel ch c).channel ch = c := Table.row_put_self _ _ _

theorem channel_writeChannel (ch x : ChannelNo) (c : Channel) :
    (s.writeChannel ch c).channel x = if ch = x then c else s.channel x := by
  rw [← channel_setChannel]
  unfold State.writeChannel State.channel
  dsimp only
  split
  · rfl
  · split <;> simp

@[simp] theorem channel_writeChannel_self (ch : ChannelNo) (c : Channel) :
    (s.writeChannel ch c).channel ch = c := by
  simp [channel_writeChannel]

theorem line_setLine (l k : LineNo) (x : Line) :
    (s.setLine l x).line k = if l = k then x else s.line k := Table.row_put _ _ _ _

@[simp] theorem line_setLine_self (l : LineNo) (x : Line) : (s.setLine l x).line l = x :=
  Table.row_put_self _ _ _

theorem engine_setEngine (e f : EngineNo) (g : Engine) :
    (s.setEngine e g).engine f = if e = f then g.reoffer else s.engine f := Table.row_put _ _ _ _

@[simp] theorem engine_setEngine_self (e : EngineNo) (g : Engine) :
    (s.setEngine e g).engine e = g.reoffer := Table.row_put_self _ _ _

theorem poolEngine_setPoolEngine (e f : EngineNo) (x : PoolEngine) :
    (s.setPoolEngine e x).poolEngine f = if e = f then x else s.poolEngine f := Table.row_put _ _ _ _

@[simp] theorem poolEngine_setPoolEngine_self (e : EngineNo) (x : PoolEngine) :
    (s.setPoolEngine e x).poolEngine e = x := Table.row_put_self _ _ _

theorem apertureUnit_setApertureUnit (d k : Domain) (x : ApertureUnit) :
    (s.setApertureUnit d x).apertureUnit k = if d = k then x else s.apertureUnit k :=
  PerPort.get_set _ _ _ _

theorem aperture_setAperture (d k : Domain) (i j : ApertureNo) (x : Aperture) :
    (s.setAperture d i x).aperture k j = if d = k ∧ i = j then x else s.aperture k j := by
  unfold State.setAperture State.aperture
  dsimp only
  rw [apertureUnit_setApertureUnit]
  by_cases here : d = k
  · subst here
    simp [Table.row_put]
  · simp [here]

@[simp] theorem aperture_setAperture_self (d : Domain) (i : ApertureNo) (x : Aperture) :
    (s.setAperture d i x).aperture d i = x := by
  simp [aperture_setAperture]

theorem master_setMaster (d k : Domain) (x : BusMaster) :
    (s.setMaster d x).master k = if d = k then x else s.master k := PerPort.get_set _ _ _ _

@[simp] theorem master_setMaster_self (d : Domain) (x : BusMaster) :
    (s.setMaster d x).master d = x := PerPort.get_set_self _ _ _

theorem noticeUnit_setNoticeUnit (p q : Port) (x : NoticeUnit) :
    (s.setNoticeUnit p x).noticeUnit q = if p = q then x else s.noticeUnit q :=
  PerPort.get_set _ _ _ _

@[simp] theorem noticeUnit_setNoticeUnit_self (p : Port) (x : NoticeUnit) :
    (s.setNoticeUnit p x).noticeUnit p = x := PerPort.get_set_self _ _ _

theorem port_setPort (p q : Port) (x : PortUnit) :
    (s.setPort p x).port q = if p = q then x else s.port q := PerPort.get_set _ _ _ _

@[simp] theorem port_setPort_self (p : Port) (x : PortUnit) : (s.setPort p x).port p = x :=
  PerPort.get_set_self _ _ _

/-! ### Reading a block that stands as it did -/

section
variable {s} {t : State}

theorem channel_of_same (h : t.channels = s.channels) (ch : ChannelNo) :
    t.channel ch = s.channel ch := congrArg (·.row ch) h

theorem line_of_same (h : t.lines = s.lines) (l : LineNo) : t.line l = s.line l :=
  congrArg (·.row l) h

theorem engine_of_same (h : t.engines = s.engines) (e : EngineNo) : t.engine e = s.engine e :=
  congrArg (·.row e) h

theorem poolEngine_of_same (h : t.pool = s.pool) (e : EngineNo) : t.poolEngine e = s.poolEngine e :=
  congrArg (·.engines.row e) h

theorem aperture_of_same (h : t.apertures = s.apertures) (d : Domain) (i : ApertureNo) :
    t.aperture d i = s.aperture d i := congrArg (fun x => (x.get d).records.row i) h

theorem master_of_same (h : t.masters = s.masters) (d : Domain) : t.master d = s.master d :=
  congrArg (·.get d) h

theorem noticeUnit_of_same (h : t.notices = s.notices) (p : Port) :
    t.noticeUnit p = s.noticeUnit p := congrArg (·.get p) h

theorem port_of_same (h : t.ports = s.ports) (p : Port) : t.port p = s.port p :=
  congrArg (·.get p) h

end

end Sys2Proof.Machine
end

section
/-! PROOFS. Bus lists: each change of a Bus Master keeps its places, its limit and its states in step
(R107, R113, R115, R116, R118). -/

namespace Sys2Proof.Machine

/-! ### One Bus Master -/

namespace BusMaster

variable {m : BusMaster}

theorem sound_reset : BusMaster.reset.Sound where
  places := by decide
  limit := by decide
  whenOpen _ := ⟨rfl, by simp [BusMaster.reset]⟩
  whenRecovering h := by cases h

theorem Sound.withLimit (h : m.Sound) {n : Nat} (bound : n ≤ 65535) : { m with limit := n }.Sound :=
  ⟨h.places, bound, h.whenOpen, h.whenRecovering⟩

/-- An admission in progress keeps a place, so that its end frees one (R109). -/
theorem Sound.withoutAdmission (h : m.Sound) : { m with admission := none }.Sound where
  places := by
    have := h.places
    simp only [Option.isSome_none, Bool.false_eq_true, if_false]
    omega
  limit := h.limit
  whenOpen := h.whenOpen
  whenRecovering := h.whenRecovering

theorem Sound.taken (h : m.Sound) (ready : m.readyToTake = true) (e : EngineNo) (a : Admission) :
    { m with lastServed := e, admission := some a }.Sound where
  places := by
    simp only [readyToTake, Config.busPlaces, Bool.and_eq_true, decide_eq_true_eq] at ready
    obtain ⟨⟨-, room⟩, -⟩ := ready
    simpa using of_decide_eq_true room
  limit := h.limit
  whenOpen := h.whenOpen
  whenRecovering := h.whenRecovering

/-- The place kept for the admission is the entry's (R110). -/
theorem Sound.issued (h : m.Sound) (isOpen : m.state = .open) (admitting : m.admission.isSome)
    {x : BusEntry} (outstanding : x.status = .outstanding) :
    { m with list := m.list ++ [x], admission := none }.Sound where
  places := by
    have := h.places
    simp_all
  limit := h.limit
  whenOpen := by
    obtain ⟨stale, entries⟩ := h.whenOpen isOpen
    refine fun _ => ⟨stale, fun y hy => ?_⟩
    rcases List.mem_append.1 hy with old | new
    · exact entries y old
    · rwa [List.mem_singleton.1 new]
  whenRecovering := by simp [isOpen]

/-- A master that empties its list is OPEN, whatever becomes of its admission (R116, R118). -/
theorem Sound.emptied (h : m.Sound) (a : Option Admission) :
    { m.emptied with admission := a }.Sound where
  places := by
    simp only [BusMaster.emptied, List.length_nil]
    split <;> omega
  limit := h.limit
  whenOpen _ := ⟨rfl, by simp [BusMaster.emptied]⟩
  whenRecovering h := by simp [BusMaster.emptied] at h

theorem Sound.answered (h : m.Sound) {x : BusEntry} {rest : List BusEntry} (list : m.list = x :: rest)
    (outstanding : x.status = .outstanding) : { m with list := rest }.Sound where
  places := by
    have := h.places
    simp_all
    omega
  limit := h.limit
  whenOpen isOpen := by
    obtain ⟨stale, entries⟩ := h.whenOpen isOpen
    exact ⟨stale, fun y hy => entries y (by simp [list, hy])⟩
  whenRecovering recovering := by
    obtain ⟨-, -, entries⟩ := h.whenRecovering recovering
    have := (entries x (by simp [list])).1
    simp [outstanding] at this

theorem Sound.discarded (h : m.Sound) {x : BusEntry} {rest : List BusEntry}
    (list : m.list = x :: rest) (isStale : x.status = .stale) :
    { m with
      list := rest, stale := m.stale - 1
      state := if m.stale - 1 = 0 then .open else m.state }.Sound := by
  have recovering : m.state = .recovering := by
    cases state : m.state with
    | recovering => rfl
    | _ =>
      have := (h.whenOpen state).2 x (by simp [list])
      simp [isStale] at this
  obtain ⟨stale, -, entries⟩ := h.whenRecovering recovering
  have count : m.stale - 1 = rest.length := by simp [stale, list]
  refine ⟨?_, h.limit, ?_, ?_⟩
  · have := h.places
    simp_all
    omega
  all_goals
    simp only [count, recovering]
    intro state
  · have none_left : rest = [] := by
      by_contra some_left
      simp [some_left] at state
    simp [none_left]
  · have some_left : rest ≠ [] := by
      rintro rfl
      simp at state
    exact ⟨trivial, some_left, fun y hy => entries y (by simp [list, hy])⟩

theorem Sound.expired (h : m.Sound) (some_entry : m.list ≠ []) :
    { m with state := .recovering, list := m.list.map .expire, stale := m.list.length }.Sound where
  places := by simpa using h.places
  limit := h.limit
  whenOpen h := by cases h
  whenRecovering _ := by
    refine ⟨by simp, by simpa using some_entry, fun y hy => ?_⟩
    obtain ⟨x, -, rfl⟩ := List.mem_map.1 hy
    exact ⟨rfl, rfl⟩

end BusMaster

/-! ### Both Bus Masters through a command -/

section
variable {s t : State}

theorem State.BusesSound.of_same (h : s.BusesSound) (same : t.masters = s.masters) : t.BusesSound :=
  fun d => by
    rw [master_of_same same]
    exact h d

theorem State.BusesSound.setMaster (h : s.BusesSound) (d : Domain) {m : BusMaster} (hm : m.Sound) :
    (s.setMaster d m).BusesSound := fun k => by
  rw [master_setMaster]
  split
  · exact hm
  · exact h k

theorem setResponseLimitAct_buses (p : Port) (a : Table Word 8) (h : s.BusesSound) :
    (setResponseLimitAct p a s).2.BusesSound := by
  unfold setResponseLimitAct
  split
  · exact h
  split
  · exact h
  · next bound => exact h.setMaster p ((h p).withLimit (Nat.le_of_not_lt bound))

theorem clearBusAct_buses (p : Port) (a : Table Word 8) (h : s.BusesSound) :
    (clearBusAct p a s).2.BusesSound := by
  unfold clearBusAct
  dsimp only
  split
  · exact h
  split
  · exact h
  · exact (h.of_same (t := s.endEntries p _) (by simp)).setMaster p ((h p).emptied _)

theorem execTakeOffer_buses {d : Domain} (h : s.BusesSound) (ran : execTakeOffer d s = .next t) :
    t.BusesSound := by
  unfold execTakeOffer at ran
  split at ran
  · next ready =>
    split at ran <;> cases ran
    · exact h.setMaster d ((h d).taken ready _ _)
    · exact h
  · cases ran
    exact h

theorem execAdmissionAnswer_buses {d : Domain} (h : s.BusesSound)
    (ran : execAdmissionAnswer d s = .next t) : t.BusesSound := by
  unfold execAdmissionAnswer at ran
  split at ran
  · next r a reply admitting =>
    have cleared : (s.setMaster d { s.master d with admission := none }).BusesSound :=
      h.setMaster d (h d).withoutAdmission
    dsimp only at ran
    split at ran
    · next isOpen =>
      split at ran <;> cases ran
      · exact (h.setMaster d ((h d).issued isOpen.1 (by simp [admitting])
          (x := ⟨.outstanding, _, _, _, _, _⟩) rfl))
      · exact cleared
    · split at ran <;> cases ran <;> exact cleared
  · cases ran
    exact h

theorem execBusResponse_buses {d : Domain} {r : BusReply} (h : s.BusesSound)
    (ran : execBusResponse d r s = .next t) : t.BusesSound := by
  unfold execBusResponse at ran
  dsimp only at ran
  split at ran
  · cases ran
    exact h
  · next x rest list =>
    split at ran <;> cases ran
    · next outstanding => exact h.setMaster d ((h d).answered list outstanding)
    · next stale => exact h.setMaster d ((h d).discarded list stale)

theorem execResponseLimitExpiry_buses {d : Domain} {n : Nat} (h : s.BusesSound)
    (ran : execResponseLimitExpiry d n s = .next t) : t.BusesSound := by
  unfold execResponseLimitExpiry at ran
  split at ran
  · next x found =>
    split at ran <;> cases ran
    · have some_entry : (s.master d).list ≠ [] := by
        intro empty
        simp [empty] at found
      exact (h.setMaster d ((h d).expired some_entry)).of_same (by simp [State.expireBus, State.master])
    · exact h
  · cases ran
    exact h

theorem execBusAbandon_buses {d : Domain} (h : s.BusesSound) (ran : execBusAbandon d s = .next t) :
    t.BusesSound := by
  unfold execBusAbandon at ran
  dsimp only at ran
  split at ran <;> cases ran
  · exact h
  · exact (h.setMaster d ((h d).emptied _)).of_same (by simp [State.abandon, State.master]; rfl)

theorem reset_busesSound : State.reset.BusesSound := fun d => by
  cases d <;> exact BusMaster.sound_reset

theorem exec_buses {c : Instr} (h : s.BusesSound) (ran : exec c s = .next t) : t.BusesSound := by
  by_cases quiet : Block.masters ∈ writesOf c
  · cases c with
    | setResponseLimit p =>
      cases ran
      exact ownerTakes_keeps (fun _ _ h => h) (fun _ _ h => h)
        (fun a _ h => setResponseLimitAct_buses p a h) h
    | clearBus p =>
      cases ran
      exact ownerTakes_keeps (fun _ _ h => h) (fun _ _ h => h) (fun a _ h => clearBusAct_buses p a h) h
    | takeOffer d => exact execTakeOffer_buses h ran
    | admissionAnswer d => exact execAdmissionAnswer_buses h ran
    | busResponse d r => exact execBusResponse_buses h ran
    | responseLimitExpiry d n => exact execResponseLimitExpiry_buses h ran
    | busAbandon d => exact execBusAbandon_buses h ran
    | powerOnReset =>
      cases ran
      exact reset_busesSound
    | _ => simp at quiet
  · exact h.of_same (exec_frame ran .masters quiet)

end

end Sys2Proof.Machine
end

section
/-! PROOFS. Users of apertures: the count of each record against the entries, the admission and the ends
it stands for, through each way a transaction moves between a Bus Master and its Aperture Unit (R97–R104,
R107). -/

namespace Sys2Proof.Machine

/-! ### One domain -/

/-- `State.UsersSound` of the parts of the state it reads. -/
structure UsersAgree (xs : ApertureNo → Aperture) (es : List BusEntry) (admitting : Bool)
    (reply : Option AdmissionReply) (ws : List ApertureWord) : Prop where
  users : ∀ i, (xs i).users = entriesIn i es + admittedIn i reply + endsIn i ws
  inProgress : requestsIn ws + (if reply.isSome then 1 else 0) = if admitting then 1 else 0
  closed : ∀ i, (xs i).state = .closed → (xs i).users = 0
  draining : ∀ i, (xs i).state = .draining → 0 < (xs i).users
  granted : ∀ i, (xs i).state ≠ .closed → (xs i).grant.isSome

theorem usersSound_iff (s : State) (d : Domain) :
    s.UsersSound d ↔
      UsersAgree (s.aperture d) (s.master d).list (s.master d).admission.isSome
        (s.wires.admissions.get d) (s.wires.aperture.get d) :=
  ⟨fun ⟨users, inProgress, closed, draining, granted⟩ =>
    ⟨users, inProgress, closed, draining, granted⟩,
  fun ⟨users, inProgress, closed, draining, granted⟩ =>
    ⟨users, inProgress, closed, draining, granted⟩⟩

/-! What stands in a list of words or entries, one at a time. -/

@[simp] theorem requestsIn_nil : requestsIn [] = 0 := rfl

@[simp] theorem requestsIn_cons_request (dir : Direction) (address : Word) (length : Nat) (p : Port)
    (ws : List ApertureWord) :
    requestsIn (.request dir address length p :: ws) = requestsIn ws + 1 := by
  simp [requestsIn]

@[simp] theorem requestsIn_cons_userEnd (i : ApertureNo) (ws : List ApertureWord) :
    requestsIn (.userEnd i :: ws) = requestsIn ws := by
  simp [requestsIn]

@[simp] theorem requestsIn_append (ws vs : List ApertureWord) :
    requestsIn (ws ++ vs) = requestsIn ws + requestsIn vs := by
  simp [requestsIn]

@[simp] theorem endsIn_nil (i : ApertureNo) : endsIn i [] = 0 := rfl

@[simp] theorem endsIn_cons_request (i : ApertureNo) (dir : Direction) (address : Word) (length : Nat)
    (p : Port) (ws : List ApertureWord) :
    endsIn i (.request dir address length p :: ws) = endsIn i ws := by
  simp [endsIn]

@[simp] theorem endsIn_cons_userEnd (i j : ApertureNo) (ws : List ApertureWord) :
    endsIn i (.userEnd j :: ws) = endsIn i ws + if j = i then 1 else 0 := by
  simp [endsIn, List.count_cons]

@[simp] theorem endsIn_append (i : ApertureNo) (ws vs : List ApertureWord) :
    endsIn i (ws ++ vs) = endsIn i ws + endsIn i vs := by
  simp [endsIn]

@[simp] theorem entriesIn_nil (i : ApertureNo) : entriesIn i [] = 0 := rfl

@[simp] theorem entriesIn_cons (i : ApertureNo) (x : BusEntry) (es : List BusEntry) :
    entriesIn i (x :: es) = entriesIn i es + if x.aperture = i then 1 else 0 := by
  simp [entriesIn, List.countP_cons]

@[simp] theorem entriesIn_append (i : ApertureNo) (es fs : List BusEntry) :
    entriesIn i (es ++ fs) = entriesIn i es + entriesIn i fs := by
  simp [entriesIn]

@[simp] theorem entriesIn_map_expire (i : ApertureNo) (es : List BusEntry) :
    entriesIn i (es.map .expire) = entriesIn i es := by
  rw [entriesIn, List.countP_map]
  rfl

@[simp] theorem admittedIn_none (i : ApertureNo) : admittedIn i none = 0 := rfl

@[simp] theorem admittedIn_refused (i : ApertureNo) (k : AdmissionKind) :
    admittedIn i (some (.refused k)) = 0 := by
  simp [admittedIn]

@[simp] theorem admittedIn_admitted (i j : ApertureNo) :
    admittedIn i (some (.admitted j)) = if j = i then 1 else 0 := by
  simp [admittedIn]

/-- The ends of a whole list (R116, R118). -/
def endsOf (es : List BusEntry) : List ApertureWord := es.map fun x => .userEnd x.aperture

@[simp] theorem requestsIn_endsOf (es : List BusEntry) : requestsIn (endsOf es) = 0 := by
  induction es with
  | nil => rfl
  | cons x xs ih => simpa [endsOf] using ih

@[simp] theorem endsIn_endsOf (i : ApertureNo) (es : List BusEntry) :
    endsIn i (endsOf es) = entriesIn i es := by
  induction es with
  | nil => rfl
  | cons x xs ih =>
    change endsIn i (.userEnd x.aperture :: endsOf xs) = _
    simp [ih]

namespace UsersAgree

variable {xs : ApertureNo → Aperture} {es : List BusEntry} {admitting : Bool}
  {reply : Option AdmissionReply} {ws : List ApertureWord}

/-- A request sent with a taken offer (R109). -/
theorem request (h : UsersAgree xs es false reply ws) (dir : Direction) (address : Word) (length : Nat)
    (p : Port) : UsersAgree xs es true reply (ws ++ [.request dir address length p]) where
  users i := by simpa using h.users i
  inProgress := by
    have := h.inProgress
    simp_all
  closed := h.closed
  draining := h.draining
  granted := h.granted

/-- While a request is under way no answer is (R107). -/
theorem no_reply_of_request {dir : Direction} {address : Word} {length : Nat} {p : Port}
    (h : UsersAgree xs es admitting reply (.request dir address length p :: ws)) : reply = none := by
  have := h.inProgress
  cases reply with
  | none => rfl
  | some r =>
    simp only [requestsIn_cons_request, Option.isSome_some, if_true] at this
    split at this <;> omega

theorem refuse {dir : Direction} {address : Word} {length : Nat} {p : Port}
    (h : UsersAgree xs es admitting reply (.request dir address length p :: ws)) (k : AdmissionKind) :
    UsersAgree xs es admitting (some (.refused k)) ws where
  users i := by
    have := h.users i
    simp_all [h.no_reply_of_request]
  inProgress := by
    have := h.inProgress
    simp_all [h.no_reply_of_request]
  closed := h.closed
  draining := h.draining
  granted := h.granted

/-- The record that admits is OPEN and gains one user (R97, R100). -/
theorem gain {dir : Direction} {address : Word} {length : Nat} {p : Port} {i : ApertureNo}
    {ys : ApertureNo → Aperture}
    (h : UsersAgree xs es admitting reply (.request dir address length p :: ws))
    (isOpen : (xs i).state = .open) (gained : ys i = { xs i with users := (xs i).users + 1 })
    (others : ∀ j, j ≠ i → ys j = xs j) : UsersAgree ys es admitting (some (.admitted i)) ws where
  users j := by
    have := h.users j
    by_cases here : j = i
    · subst here
      simp_all [h.no_reply_of_request]
      omega
    · simp_all [h.no_reply_of_request, Ne.symm here]
  inProgress := by
    have := h.inProgress
    simp_all [h.no_reply_of_request]
  closed j hj := by
    by_cases here : j = i
    · subst here
      simp_all
    · exact others j here ▸ h.closed j (others j here ▸ hj)
  draining j hj := by
    by_cases here : j = i
    · subst here
      simp_all
    · exact others j here ▸ h.draining j (others j here ▸ hj)
  granted j hj := by
    by_cases here : j = i
    · subst here
      simpa [gained] using h.granted j (by simp [isOpen])
    · exact others j here ▸ h.granted j (others j here ▸ hj)

/-- The user of an admitted transaction stands for its entry once it is issued (R110). -/
theorem issue {i : ApertureNo} (h : UsersAgree xs es admitting (some (.admitted i)) ws) {x : BusEntry}
    (through : x.aperture = i) : UsersAgree xs (es ++ [x]) false none ws where
  users j := by
    have := h.users j
    simp_all
  inProgress := by
    have := h.inProgress
    simp only [Option.isSome_some, if_true] at this
    split at this <;> simp_all
  closed := h.closed
  draining := h.draining
  granted := h.granted

/-- The user of an admitted transaction that is not issued is released (R110). -/
theorem release {i : ApertureNo} (h : UsersAgree xs es admitting (some (.admitted i)) ws) :
    UsersAgree xs es false none (ws ++ [.userEnd i]) where
  users j := by
    have := h.users j
    simp_all
    omega
  inProgress := by
    have := h.inProgress
    simp only [Option.isSome_some, if_true] at this
    split at this <;> simp_all
  closed := h.closed
  draining := h.draining
  granted := h.granted

theorem refer {k : AdmissionKind} (h : UsersAgree xs es admitting (some (.refused k)) ws) :
    UsersAgree xs es false none ws where
  users j := by simpa using h.users j
  inProgress := by
    have := h.inProgress
    simp only [Option.isSome_some, if_true] at this
    split at this <;> simp_all
  closed := h.closed
  draining := h.draining
  granted := h.granted

/-- An answered entry's user ends (R108). -/
theorem answer {x : BusEntry} (h : UsersAgree xs (x :: es) admitting reply ws) :
    UsersAgree xs es admitting reply (ws ++ [.userEnd x.aperture]) where
  users j := by
    have := h.users j
    simp_all
    omega
  inProgress := by simpa using h.inProgress
  closed := h.closed
  draining := h.draining
  granted := h.granted

/-- Every entry dropped, every user ended (R116, R118). -/
theorem empty (h : UsersAgree xs es admitting reply ws) :
    UsersAgree xs [] admitting reply (ws ++ endsOf es) where
  users j := by
    have := h.users j
    simp_all
    omega
  inProgress := by simpa using h.inProgress
  closed := h.closed
  draining := h.draining
  granted := h.granted

/-- An expired list keeps its entries (R113). -/
theorem expire (h : UsersAgree xs es admitting reply ws) :
    UsersAgree xs (es.map .expire) admitting reply ws where
  users j := by simpa using h.users j
  inProgress := h.inProgress
  closed := h.closed
  draining := h.draining
  granted := h.granted

/-- The taking of an end, with the record as it stands before the last one closes it (R103). -/
theorem users_of_end {i : ApertureNo} (h : UsersAgree xs es admitting reply (.userEnd i :: ws))
    (j : ApertureNo) :
    (xs j).users - (if i = j then 1 else 0) = entriesIn j es + admittedIn j reply + endsIn j ws := by
  have := h.users j
  simp only [endsIn_cons_userEnd] at this
  omega

theorem endUser {i : ApertureNo} {ys : ApertureNo → Aperture}
    (h : UsersAgree xs es admitting reply (.userEnd i :: ws))
    (lowered : (ys i).users = (xs i).users - 1) (grant : (ys i).grant = (xs i).grant)
    (state : (ys i).state =
      if (xs i).state = .draining ∧ (xs i).users - 1 = 0 then .closed else (xs i).state)
    (others : ∀ j, j ≠ i → ys j = xs j) : UsersAgree ys es admitting reply ws where
  users j := by
    rw [← h.users_of_end j]
    by_cases here : i = j
    · subst here
      simp [lowered]
    · simp [here, others j (Ne.symm here)]
  inProgress := by simpa using h.inProgress
  closed j hj := by
    by_cases here : j = i
    · subst here
      have := h.closed j
      split at state <;> simp_all
    · exact others j here ▸ h.closed j (others j here ▸ hj)
  draining j hj := by
    by_cases here : j = i
    · subst here
      have := h.draining j
      split at state <;> simp_all
      omega
    · exact others j here ▸ h.draining j (others j here ▸ hj)
  granted j hj := by
    by_cases here : j = i
    · subst here
      have := h.granted j
      split at state <;> simp_all
    · exact others j here ▸ h.granted j (others j here ▸ hj)

/-- A record rewritten with the users it has. -/
theorem rewrite {i : ApertureNo} {ys : ApertureNo → Aperture} (h : UsersAgree xs es admitting reply ws)
    (users : (ys i).users = (xs i).users) (closed : (ys i).state = .closed → (xs i).users = 0)
    (draining : (ys i).state = .draining → 0 < (xs i).users)
    (granted : (ys i).state ≠ .closed → (ys i).grant.isSome) (others : ∀ j, j ≠ i → ys j = xs j) :
    UsersAgree ys es admitting reply ws where
  users j := by
    rw [← h.users j]
    by_cases here : j = i
    · rw [here, users]
    · rw [others j here]
  inProgress := h.inProgress
  closed j hj := by
    by_cases here : j = i
    · subst here
      rw [users, closed hj]
    · exact others j here ▸ h.closed j (others j here ▸ hj)
  draining j hj := by
    by_cases here : j = i
    · subst here
      exact users ▸ draining hj
    · exact others j here ▸ h.draining j (others j here ▸ hj)
  granted j hj := by
    by_cases here : j = i
    · subst here
      exact granted hj
    · exact others j here ▸ h.granted j (others j here ▸ hj)

end UsersAgree

end Sys2Proof.Machine
end

section
/-! PROOFS. Bus lists and users counts through every command (R88, R94–R104, R107–R118). -/

namespace Sys2Proof.Machine

section
variable {s t : State} {d : Domain}

/-! ### What a domain's condition reads -/

/-- The parts of one domain, read after a command, agree; the other domain reads nothing that
changed. -/
theorem users_of_domain {xs : ApertureNo → Aperture} {es : List BusEntry} {admitting : Bool}
    {reply : Option AdmissionReply} {ws : List ApertureWord}
    (here : UsersAgree xs es admitting reply ws) (h : ∀ k, s.UsersSound k)
    (records : t.aperture d = xs)
    (master : (t.master d).list = es ∧ (t.master d).admission.isSome = admitting)
    (wires : t.wires.admissions.get d = reply ∧ t.wires.aperture.get d = ws)
    (others : ∀ k, d ≠ k → t.aperture k = s.aperture k ∧ t.master k = s.master k ∧
      t.wires.admissions.get k = s.wires.admissions.get k ∧
      t.wires.aperture.get k = s.wires.aperture.get k) : ∀ k, t.UsersSound k := by
  intro k
  by_cases same : d = k
  · subst same
    obtain ⟨rfl, rfl⟩ := master
    obtain ⟨rfl, rfl⟩ := wires
    subst records
    exact (usersSound_iff t d).2 here
  · obtain ⟨records, master, reply, words⟩ := others k same
    rw [usersSound_iff, records, master, reply, words]
    exact (usersSound_iff s k).1 (h k)

theorem users_of_same (h : ∀ k, s.UsersSound k) (records : ∀ k j, t.aperture k j = s.aperture k j)
    (masters : t.masters = s.masters) (admissions : t.wires.admissions = s.wires.admissions)
    (words : t.wires.aperture = s.wires.aperture) : ∀ k, t.UsersSound k := by
  intro k
  rw [usersSound_iff, funext (records k), master_of_same masters, admissions, words]
  exact (usersSound_iff s k).1 (h k)

/-- A record rewritten with the users it has, nothing of the Bus Masters changed. -/
theorem users_of_rewrite {i : ApertureNo} {y : Aperture} (h : ∀ k, s.UsersSound k)
    (read : ∀ k j, t.aperture k j = if d = k ∧ i = j then y else s.aperture k j)
    (same : t.masters = s.masters ∧ t.wires.admissions = s.wires.admissions ∧
      t.wires.aperture = s.wires.aperture)
    (users : y.users = (s.aperture d i).users)
    (closed : y.state = .closed → (s.aperture d i).users = 0)
    (draining : y.state = .draining → 0 < (s.aperture d i).users)
    (granted : y.state ≠ .closed → y.grant.isSome) : ∀ k, t.UsersSound k := by
  obtain ⟨masters, admissions, words⟩ := same
  have here : t.aperture d i = y := by simp [read]
  have agree := ((usersSound_iff s d).1 (h d)).rewrite (i := i) (ys := t.aperture d)
    (by rwa [here]) (by rwa [here]) (by rwa [here]) (by rwa [here])
    fun j hj => by simp [read, Ne.symm hj]
  exact users_of_domain agree h rfl
    ⟨by rw [master_of_same masters], by rw [master_of_same masters]⟩ ⟨by rw [admissions], by rw [words]⟩
    fun k other => ⟨funext fun j => by simp [read, other], master_of_same masters k, by rw [admissions],
      by rw [words]⟩

/-! ### Opening, revoking and closing (R92, R94, R95) -/

theorem closeAperture_aperture (s : State) (d k : Domain) (i j : ApertureNo) :
    (s.closeAperture d i).aperture k j =
      if d = k ∧ i = j then { s.aperture d i with state := .closed } else s.aperture k j := by
  rw [← aperture_setAperture]
  refine aperture_of_same ?_ k j
  unfold State.closeAperture
  dsimp only
  repeat' split
  all_goals rfl

theorem revoke_aperture (s : State) (d k : Domain) (i j : ApertureNo) :
    (s.revoke d i).aperture k j =
      if d = k ∧ i = j then
        { s.aperture d i with state := if (s.aperture d i).users = 0 then .closed else .draining }
      else s.aperture k j := by
  unfold State.revoke
  dsimp only
  split
  · rw [closeAperture_aperture]
  · rw [aperture_setAperture]

theorem openApertureAt_aperture (s : State) (d k : Domain) (i j : ApertureNo) (g : Grant) :
    (s.openApertureAt d i g).aperture k j =
      if d = k ∧ i = j then (s.aperture d i).opened g else s.aperture k j := by
  rw [← aperture_setAperture]
  refine aperture_of_same ?_ k j
  unfold State.openApertureAt
  dsimp only
  split <;> rfl

theorem revoke_users (i : ApertureNo) (h : ∀ k, s.UsersSound k)
    (isOpen : (s.aperture d i).state = .open) : ∀ k, (s.revoke d i).UsersSound k := by
  refine users_of_rewrite h (fun k j => revoke_aperture s d k i j) (by simp) rfl ?_ ?_ fun _ => ?_
  · dsimp only
    split
    · next none_left => exact fun _ => none_left
    · exact fun closed => nomatch closed
  · dsimp only
    split
    · exact fun draining => nomatch draining
    · next some_left => exact fun _ => Nat.pos_of_ne_zero some_left
  · exact (h d).granted i (by simp [isOpen])

theorem openApertureAct_users (p : Port) (a : Table Word 8) (h : ∀ k, s.UsersSound k) :
    ∀ k, (openApertureAct d p a s).2.UsersSound k := by
  unfold openApertureAct
  split
  · exact h
  · next i _ =>
    split
    · exact h
    · next closed =>
      split
      · exact h
      · next g _ =>
        refine users_of_rewrite h (fun k j => openApertureAt_aperture s d k i j g) (by simp) rfl ?_ ?_
          fun _ => rfl
        · exact fun state => nomatch state
        · exact fun state => nomatch state

theorem revokeApertureAct_users (p : Port) (a : Table Word 8) (h : ∀ k, s.UsersSound k) :
    ∀ k, (revokeApertureAct d p a s).2.UsersSound k := by
  unfold revokeApertureAct
  split
  · exact h
  · dsimp only
    split
    · exact h
    · next isOpen => exact revoke_users _ h (not_not.1 isOpen)

/-- The Aperture Unit's taking of a teardown, before its records are withdrawn (R104). -/
def State.apertureTeardown (s : State) (p : Port) : State :=
  (s.setDirections p { s.wires.directions.get p with apertureUnit := false }).setApertureUnit p
    { s.apertureUnit p with clearing := true }

theorem execApertureUnitTeardown_of_due {p : Port}
    (due : (s.wires.directions.get p).apertureUnit = true) :
    execApertureUnitTeardown p s =
      .next (((List.finRange 8).foldl (fun v i => v.revokeIfOpen p i)
        (s.apertureTeardown p)).reportApertures p) := by
  rw [execApertureUnitTeardown, due]
  rfl

/-- The flag of a teardown is no part of a record. -/
theorem aperture_setClearing (s : State) (d k : Domain) (b : Bool) (j : ApertureNo) :
    (s.setApertureUnit d { s.apertureUnit d with clearing := b }).aperture k j = s.aperture k j := by
  unfold State.aperture
  rw [apertureUnit_setApertureUnit]
  split
  · next here => rw [here]
  · rfl

@[simp] theorem reportApertures_aperture (s : State) (d k : Domain) (j : ApertureNo) :
    (s.reportApertures d).aperture k j = s.aperture k j := by
  unfold State.reportApertures
  split
  · exact aperture_setClearing s d k false j
  · rfl

theorem execApertureUnitTeardown_users {p : Port} (h : ∀ k, s.UsersSound k)
    (ran : execApertureUnitTeardown p s = .next t) : ∀ k, t.UsersSound k := by
  by_cases due : (s.wires.directions.get p).apertureUnit = true
  · rw [execApertureUnitTeardown_of_due due] at ran
    cases ran
    have begun : ∀ k, (s.apertureTeardown p).UsersSound k :=
      users_of_same h (aperture_setClearing _ p · true) rfl rfl rfl
    have withdrawn : ∀ k, ((List.finRange 8).foldl (fun v i => v.revokeIfOpen p i)
        (s.apertureTeardown p)).UsersSound k := by
      refine foldl_keeps (P := fun u => ∀ k, u.UsersSound k) (fun u i hu => ?_) _ begun
      unfold State.revokeIfOpen
      split
      · next isOpen => exact revoke_users i hu isOpen
      · exact hu
    exact users_of_same withdrawn (reportApertures_aperture _ p) (by simp) (by simp) (by simp)
  · rw [execApertureUnitTeardown] at ran
    simp only [due] at ran
    cases ran
    exact h

/-! ### Admission and the ends of users (R97, R98, R103) -/

theorem decide_eq_admitted {dir : Direction} {address : Word} {length : Nat} {p : Port}
    {i : ApertureNo} (h : s.decide d dir address length p = .admitted i) :
    (s.aperture d i).state = .open := by
  unfold State.decide at h
  split at h
  · next j found =>
    cases h
    have := List.find?_some found
    simp_all
  · split at h <;> cases h

theorem execAdmissionRequest_users (h : ∀ k, s.UsersSound k)
    (ran : execAdmissionRequest d s = .next t) : ∀ k, t.UsersSound k := by
  unfold execAdmissionRequest at ran
  split at ran
  · next dir address length p rest words =>
    have before := (usersSound_iff s d).1 (h d)
    rw [words] at before
    dsimp only at ran
    split at ran <;> cases ran
    · next i admitted =>
      have isOpen : (s.aperture d i).state = .open := decide_eq_admitted admitted
      have read (k : Domain) (j : ApertureNo) :
          (((s.setApertureWords d rest).addUser d i).setAdmissionReply d
            (some ((s.setApertureWords d rest).decide d dir address length p))).aperture k j =
          if d = k ∧ i = j then
            { s.aperture d i with users := (s.aperture d i).users + 1 } else s.aperture k j :=
        aperture_setAperture (s.setApertureWords d rest) d k i j _
      have agree := before.gain isOpen (ys := State.aperture _ d) ((read d i).trans (by simp))
        fun j hj => (read d j).trans (by simp [Ne.symm hj])
      refine users_of_domain agree h rfl ⟨rfl, rfl⟩ ⟨by simp [admitted], by simp⟩ fun k other =>
        ⟨funext fun j => by simp [read, other], rfl, ?_, ?_⟩
      · exact PerPort.get_set_of_ne _ other _
      · exact PerPort.get_set_of_ne _ other _
    · next k refused =>
      refine users_of_domain (before.refuse k) h rfl ⟨rfl, rfl⟩ ⟨by simp [refused], by simp⟩
        fun j other => ⟨rfl, rfl, ?_, ?_⟩
      · exact PerPort.get_set_of_ne _ other _
      · exact PerPort.get_set_of_ne _ other _
  · cases ran
    exact h

/-- The record after an end of one of its users (R103). -/
def Aperture.lessUser (x : Aperture) : Aperture :=
  { x with
    users := x.users - 1
    state := if x.state = .draining ∧ x.users - 1 = 0 then .closed else x.state }

theorem endUser_aperture (s : State) (d k : Domain) (i j : ApertureNo) :
    (s.endUser d i).aperture k j =
      if d = k ∧ i = j then (s.aperture d i).lessUser else s.aperture k j := by
  unfold State.endUser Aperture.lessUser
  dsimp only
  split
  · rw [reportApertures_aperture, closeAperture_aperture, aperture_setAperture_self,
      aperture_setAperture]
    split <;> rfl
  · rw [aperture_setAperture]

theorem execUserEnd_users (h : ∀ k, s.UsersSound k) (ran : execUserEnd d s = .next t) :
    ∀ k, t.UsersSound k := by
  unfold execUserEnd at ran
  split at ran <;> cases ran
  · next i rest words =>
    have before := (usersSound_iff s d).1 (h d)
    rw [words] at before
    have read (k : Domain) (j : ApertureNo) :
        ((s.setApertureWords d rest).endUser d i).aperture k j =
          if d = k ∧ i = j then (s.aperture d i).lessUser else s.aperture k j :=
      endUser_aperture (s.setApertureWords d rest) d k i j
    have master (k : Domain) : ((s.setApertureWords d rest).endUser d i).master k = s.master k :=
      master_of_same (by simp) k
    have lowered := (read d i).trans (if_pos ⟨rfl, rfl⟩)
    have agree := before.endUser (ys := State.aperture _ d) (by rw [lowered]; rfl)
      (by rw [lowered]; rfl) (by rw [lowered]; rfl)
      fun j hj => (read d j).trans (by simp [Ne.symm hj])
    refine users_of_domain agree h rfl ⟨by rw [master], by rw [master]⟩ ⟨by simp, by simp⟩
      fun k other => ⟨funext fun j => by simp [read, other], master k, by simp, ?_⟩
    simp [PerPort.get_set, other]
  · exact h

/-! ### The Bus Masters (R108–R118) -/

theorem setResponseLimitAct_users (p : Port) (a : Table Word 8) (h : ∀ k, s.UsersSound k) :
    ∀ k, (setResponseLimitAct p a s).2.UsersSound k := by
  unfold setResponseLimitAct
  repeat' split
  · exact h
  · exact h
  · refine users_of_domain ((usersSound_iff s p).1 (h p)) h rfl ⟨by simp, by simp⟩ ⟨rfl, rfl⟩
      fun k other => ⟨rfl, ?_, rfl, rfl⟩
    simp [master_setMaster, other]

/-- The ends of a list of entries, sent one after another (R116, R118). -/
theorem endEntries_eq (s : State) (d : Domain) (es : List BusEntry) :
    s.endEntries d es =
      s.setWires
        { s.wires with aperture := s.wires.aperture.set d (s.wires.aperture.get d ++ endsOf es) } := by
  unfold State.endEntries
  induction es generalizing s with
  | nil => simp [endsOf, State.setWires]
  | cons x xs ih =>
    rw [List.foldl_cons, ih]
    simp [State.sendAperture, State.setWires, endsOf]

theorem clearBusAct_users (p : Port) (a : Table Word 8) (h : ∀ k, s.UsersSound k) :
    ∀ k, (clearBusAct p a s).2.UsersSound k := by
  unfold clearBusAct
  dsimp only
  repeat' split
  · exact h
  · exact h
  · rw [endEntries_eq]
    refine users_of_domain ((usersSound_iff s p).1 (h p)).empty h rfl
      ⟨by simp [BusMaster.emptied], by simp [BusMaster.emptied]⟩ ⟨rfl, by simp⟩
      fun k other => ⟨rfl, PerPort.get_set_of_ne _ other _, rfl, PerPort.get_set_of_ne _ other _⟩

theorem execTakeOffer_users (h : ∀ k, s.UsersSound k) (ran : execTakeOffer d s = .next t) :
    ∀ k, t.UsersSound k := by
  unfold execTakeOffer at ran
  split at ran
  · next ready =>
    split at ran <;> cases ran
    · have idle : (s.master d).admission.isSome = false := by
        simp only [BusMaster.readyToTake, Bool.and_eq_true] at ready
        obtain ⟨-, none_yet⟩ := ready
        simpa using none_yet
      have before := (usersSound_iff s d).1 (h d)
      rw [idle] at before
      refine users_of_domain (before.request _ _ _ _) h rfl ⟨?_, ?_⟩
        ⟨rfl, PerPort.get_set_self _ _ _⟩ fun k other =>
          ⟨rfl, PerPort.get_set_of_ne _ other _, rfl, PerPort.get_set_of_ne _ other _⟩
      all_goals simp [State.take, State.master]
    · exact h
  · cases ran
    exact h

/-- The failure one engine is sent, if it has an entry (R113, R118). -/
def failureWord (es : List BusEntry) (kind : EngineNo → FailureKind) (e : EngineNo) :
    Option EngineWord :=
  match entriesOf e es with
  | [] => none
  | ts => some ⟨e, .failure (kind e) ts⟩

/-- The failures of a whole list, one for each engine with an entry (R113, R118). -/
def failureWords (es : List BusEntry) (kind : EngineNo → FailureKind) : List EngineWord :=
  (List.finRange 4).filterMap (failureWord es kind)

theorem failEngines_eq (s : State) (d : Domain) (es : List BusEntry) (kind : EngineNo → FailureKind) :
    s.failEngines d es kind =
      s.setWires
        { s.wires with
          engineWords :=
            s.wires.engineWords.set d (s.wires.engineWords.get d ++ failureWords es kind) } := by
  unfold State.failEngines failureWords
  induction List.finRange 4 generalizing s with
  | nil => simp [State.setWires]
  | cons e rest ih =>
    rw [List.foldl_cons, ih, List.filterMap_cons, failureWord]
    split <;> simp_all [State.sendEngineWord, State.setWires]

/-- An expiry: the clock, the master and the failures sent, nothing else (R113). -/
theorem expireBus_eq (s : State) (d : Domain) (x : BusEntry) (deadline : Nat) :
    s.expireBus d x deadline =
      { s with
        clock := max s.clock deadline
        masters :=
          s.masters.set d
            { s.master d with
              state := .recovering, list := (s.master d).list.map .expire
              stale := (s.master d).list.length }
        wires :=
          { s.wires with
            engineWords :=
              s.wires.engineWords.set d
                (s.wires.engineWords.get d ++
                  failureWords (s.master d).list fun e =>
                    if e = x.engine then .timeoutOwn x.txn else .timeoutCollateral) } } := by
  unfold State.expireBus
  dsimp only
  rw [failEngines_eq]
  rfl

/-- An abandonment: the master, the failures and the ends sent, nothing else (R118). -/
theorem abandon_eq (s : State) (d : Domain) :
    s.abandon d =
      { s with
        masters :=
          s.masters.set d
            { (s.master d).emptied with
              admission := (s.master d).admission.map fun a => { a with marked := true } }
        wires :=
          { s.wires with
            aperture :=
              s.wires.aperture.set d (s.wires.aperture.get d ++ endsOf (s.master d).list)
            engineWords :=
              s.wires.engineWords.set d
                (s.wires.engineWords.get d ++
                  failureWords (outstandingOf (s.master d).list) fun _ => .domainReset) } } := by
  unfold State.abandon
  dsimp only
  rw [failEngines_eq, endEntries_eq]
  rfl

theorem execAdmissionAnswer_users (h : ∀ k, s.UsersSound k)
    (ran : execAdmissionAnswer d s = .next t) : ∀ k, t.UsersSound k := by
  unfold execAdmissionAnswer at ran
  split at ran
  · next r a reply admitting =>
    have before := (usersSound_iff s d).1 (h d)
    rw [reply] at before
    dsimp only at ran
    split at ran
    · split at ran <;> cases ran
      · next i =>
        refine users_of_domain
          (before.issue (x := ⟨.outstanding, a.engine, a.txn, i, s.deadline d, s.busBytes a.engine a.txn⟩)
            rfl) h rfl ⟨?_, ?_⟩ ⟨PerPort.get_set_self _ _ _, rfl⟩ fun k other =>
          ⟨rfl, PerPort.get_set_of_ne _ other _, PerPort.get_set_of_ne _ other _, rfl⟩
        · exact congrArg BusMaster.list (PerPort.get_set_self _ _ _)
        · exact congrArg (·.admission.isSome) (PerPort.get_set_self s.masters d _)
      · refine users_of_domain before.refer h rfl ⟨?_, ?_⟩ ⟨PerPort.get_set_self _ _ _, rfl⟩
          fun k other =>
            ⟨rfl, PerPort.get_set_of_ne _ other _, PerPort.get_set_of_ne _ other _, rfl⟩
        all_goals simp [State.master]
    · split at ran <;> cases ran
      · refine users_of_domain before.release h rfl ⟨?_, ?_⟩
          ⟨PerPort.get_set_self _ _ _, PerPort.get_set_self _ _ _⟩ fun k other =>
            ⟨rfl, PerPort.get_set_of_ne _ other _, PerPort.get_set_of_ne _ other _,
              PerPort.get_set_of_ne _ other _⟩
        all_goals simp [State.master]
      · refine users_of_domain before.refer h rfl ⟨?_, ?_⟩ ⟨PerPort.get_set_self _ _ _, rfl⟩
          fun k other =>
            ⟨rfl, PerPort.get_set_of_ne _ other _, PerPort.get_set_of_ne _ other _, rfl⟩
        all_goals simp [State.master]
  · cases ran
    exact h

theorem execBusResponse_users {r : BusReply} (h : ∀ k, s.UsersSound k)
    (ran : execBusResponse d r s = .next t) : ∀ k, t.UsersSound k := by
  unfold execBusResponse at ran
  dsimp only at ran
  split at ran
  · cases ran
    exact h
  · next x rest list =>
    have before := (usersSound_iff s d).1 (h d)
    rw [list] at before
    split at ran <;> cases ran
    all_goals
      refine users_of_domain before.answer h rfl ⟨?_, ?_⟩ ⟨rfl, PerPort.get_set_self _ _ _⟩
        fun k other => ⟨rfl, PerPort.get_set_of_ne _ other _, rfl, PerPort.get_set_of_ne _ other _⟩
      all_goals simp [State.master]

theorem execResponseLimitExpiry_users {n : Nat} (h : ∀ k, s.UsersSound k)
    (ran : execResponseLimitExpiry d n s = .next t) : ∀ k, t.UsersSound k := by
  unfold execResponseLimitExpiry at ran
  split at ran
  · split at ran <;> cases ran
    · rw [expireBus_eq]
      refine users_of_domain ((usersSound_iff s d).1 (h d)).expire h rfl ⟨?_, ?_⟩ ⟨rfl, rfl⟩ fun k other =>
        ⟨rfl, PerPort.get_set_of_ne _ other _, rfl, rfl⟩
      all_goals simp [State.master]
    · exact h
  · cases ran
    exact h

theorem execBusAbandon_users (h : ∀ k, s.UsersSound k) (ran : execBusAbandon d s = .next t) :
    ∀ k, t.UsersSound k := by
  unfold execBusAbandon at ran
  dsimp only at ran
  split at ran <;> cases ran
  · exact h
  · rw [abandon_eq]
    refine users_of_domain ((usersSound_iff s d).1 (h d)).empty h rfl ⟨?_, ?_⟩
      ⟨rfl, PerPort.get_set_self _ _ _⟩ fun k other =>
        ⟨rfl, PerPort.get_set_of_ne _ other _, rfl, PerPort.get_set_of_ne _ other _⟩
    all_goals simp [State.master, BusMaster.emptied]

theorem reset_usersSound (d : Domain) : State.reset.UsersSound d := by
  have record (i : ApertureNo) : State.reset.aperture d i = ⟨.closed, none, 0, 0⟩ := by
    cases d <;> exact Table.row_fill _ i
  have master : State.reset.master d = .reset := by cases d <;> rfl
  have wires : State.reset.wires.admissions.get d = none ∧ State.reset.wires.aperture.get d = [] := by
    cases d <;> exact ⟨rfl, rfl⟩
  refine ⟨fun i => ?_, ?_, fun i _ => ?_, fun i hi => ?_, fun i hi => ?_⟩
  · simp [record, master, wires, BusMaster.reset]
  · simp [master, wires, BusMaster.reset]
  · simp [record]
  · simp [record] at hi
  · simp [record] at hi

theorem exec_users {c : Instr} (h : ∀ k, s.UsersSound k) (ran : exec c s = .next t) :
    ∀ k, t.UsersSound k := by
  have sent {u : State} (h : ∀ k, u.UsersSound k) {w : Wires} (admissions : w.admissions = u.wires.admissions)
      (words : w.aperture = u.wires.aperture) : ∀ k, (u.setWires w).UsersSound k :=
    users_of_same h (fun _ _ => rfl) rfl admissions words
  have written {u : State} {p : Port} {a : Answer} (h : ∀ k, u.UsersSound k) :
      ∀ k, (u.writeAnswer p a).UsersSound k :=
    users_of_same h (aperture_of_same (by simp)) (by simp) (by simp) (by simp)
  have command {c : Command} {act : Act} {p : Port} (effect : ∀ (a : Table Word 8) (u : State),
      (∀ k, u.UsersSound k) → ∀ k, (act p a u).2.UsersSound k) :
      ∀ k, (ownerTakes c act p s).UsersSound k :=
    ownerTakes_keeps (P := fun u => ∀ k, u.UsersSound k) (fun _ _ h => sent h rfl rfl)
      (fun _ _ h => sent h rfl rfl) effect h
  have apertureCommand {c : Command} {act : Domain → Act} {p : Port}
      (effect : ∀ (d : Domain) (a : Table Word 8) (u : State),
        (∀ k, u.UsersSound k) → ∀ k, (act d p a u).2.UsersSound k) :
      ∀ k, (apertureTakes c act p s).UsersSound k :=
    apertureTakes_keeps (P := fun u => ∀ k, u.UsersSound k) (fun _ _ h => sent h rfl rfl)
      (fun _ _ h => sent h rfl rfl) (fun _ _ h => written h) effect h
  cases c with
  | setResponseLimit p =>
    cases ran
    exact command fun a u h => setResponseLimitAct_users p a h
  | clearBus p =>
    cases ran
    exact command fun a u h => clearBusAct_users p a h
  | openAperture p =>
    cases ran
    exact apertureCommand fun d a u h => openApertureAct_users p a h
  | revokeAperture p =>
    cases ran
    exact apertureCommand fun d a u h => revokeApertureAct_users p a h
  | queryAperture p =>
    cases ran
    exact apertureCommand fun d a u h => (queryApertureAct_same p a u d).symm ▸ h
  | apertureUnitTeardown p => exact execApertureUnitTeardown_users h ran
  | admissionRequest d => exact execAdmissionRequest_users h ran
  | userEnd d => exact execUserEnd_users h ran
  | takeOffer d => exact execTakeOffer_users h ran
  | admissionAnswer d => exact execAdmissionAnswer_users h ran
  | busResponse d r => exact execBusResponse_users h ran
  | responseLimitExpiry d n => exact execResponseLimitExpiry_users h ran
  | busAbandon d => exact execBusAbandon_users h ran
  | powerOnReset =>
    cases ran
    exact users_of_same reset_usersSound (fun _ _ => rfl) rfl rfl rfl
  | _ =>
    exact users_of_same h (aperture_of_same (exec_frame ran .apertures (by simp)))
      (exec_frame ran .masters (by simp)) (exec_frame ran .admissions (by simp))
      (exec_frame ran .apertureWords (by simp))

end

end Sys2Proof.Machine

open Sys2Proof Sys2Proof.Machine

/-- Settles O10: by the command that a step runs; each count by the one place where a transaction moves
between the Bus Master and its Aperture Unit. -/
theorem busesAndUsersStayInStep : Obligations.BusesAndUsersStayInStep := by
  intro s t ran
  refine ⟨step_keeps (fun _ _ h => h) (fun _ _ h => h) (fun _ _ _ => exec_buses) ran, ?_⟩
  exact step_keeps (P := fun u => ∀ d, u.UsersSound d)
    (fun _ _ h => users_of_same h (fun _ _ => rfl) rfl rfl rfl)
    (fun _ _ h => users_of_same h (fun _ _ => rfl) rfl rfl rfl) (fun _ _ _ => exec_users) ran

end

section
/-! PROOFS. What the shared operations on channel records leave of a record: a line that takes a trigger
or is unmapped writes the two fields of the line, and freeing a channel leaves the others' states. -/

namespace Sys2Proof.Machine

variable (s : State)

theorem writeChannel_channels (ch : ChannelNo) (c : Channel) :
    (s.writeChannel ch c).channels = s.channels.put ch c := by
  unfold State.writeChannel
  dsimp only
  split
  · rfl
  · split <;> simp

/-! ### A channel becomes FREE, step by step -/

/-- The line of a channel that becomes FREE is unmapped. -/
def State.dropLine (s : State) (ch : ChannelNo) : State :=
  match (s.channel ch).mappedLine with
  | some l => s.unmap l
  | none => s

/-- The parked notice of a channel that becomes FREE is discarded. -/
def State.dropNotice (s : State) (owner : Option Port) (ch : ChannelNo) : State :=
  match owner with
  | some p => s.setNoticeUnit p ((s.noticeUnit p).unpark ch)
  | none => s

theorem freeChannel_eq (ch : ChannelNo) :
    s.freeChannel ch =
      ((s.dropLine ch).dropNotice (s.channel ch).owner ch).writeChannel ch .free := rfl

@[simp] theorem dropNotice_channel (owner : Option Port) (ch x : ChannelNo) :
    (s.dropNotice owner ch).channel x = s.channel x := by
  cases owner <;> rfl

theorem dropNotice_noticeUnit (owner : Option Port) (ch : ChannelNo) (p : Port) :
    (s.dropNotice owner ch).noticeUnit p =
      if owner = some p then (s.noticeUnit p).unpark ch else s.noticeUnit p := by
  cases owner with
  | none => simp [State.dropNotice]
  | some q =>
    simp only [State.dropNotice, noticeUnit_setNoticeUnit, Option.some.injEq]
    split
    · next here => rw [here]
    · rfl

@[simp] theorem dropLine_noticeUnit (ch : ChannelNo) (p : Port) :
    (s.dropLine ch).noticeUnit p = s.noticeUnit p := by
  unfold State.dropLine
  split
  · exact noticeUnit_of_same (by simp) p
  · rfl

/-! ### Fields that a line's operations leave alone -/

section
variable {α : Type} (f : Channel → α)

theorem takeTrigger_keeps (hf : ∀ c b, f { c with linePending := b } = f c) (l : LineNo)
    (x : ChannelNo) : f ((s.takeTrigger l).channel x) = f (s.channel x) := by
  unfold State.takeTrigger
  dsimp only
  split
  · rfl
  · next m _ =>
    split
    · rw [channel_writeChannel]
      split
      · next here => rw [hf, here]
      · rfl
    · rfl

theorem channelAble_keeps (hf : ∀ c b, f { c with linePending := b } = f c) (ch x : ChannelNo) :
    f ((s.channelAble ch).channel x) = f (s.channel x) := by
  unfold State.channelAble
  split
  · exact takeTrigger_keeps s f hf _ x
  · rfl

theorem unmap_keeps (hf : ∀ c m b, f { c with mappedLine := m, linePending := b } = f c) (l : LineNo)
    (x : ChannelNo) : f ((s.unmap l).channel x) = f (s.channel x) := by
  unfold State.unmap
  dsimp only
  split
  · rfl
  · rw [channel_writeChannel]
    split
    · next here =>
      subst here
      rw [hf]
      rfl
    · rfl

theorem dropLine_keeps (hf : ∀ c m b, f { c with mappedLine := m, linePending := b } = f c)
    (ch x : ChannelNo) : f ((s.dropLine ch).channel x) = f (s.channel x) := by
  unfold State.dropLine
  split
  · exact unmap_keeps s f hf _ x
  · rfl

theorem freeChannel_keeps (hf : ∀ c m b, f { c with mappedLine := m, linePending := b } = f c)
    {ch x : ChannelNo} (other : ch ≠ x) : f ((s.freeChannel ch).channel x) = f (s.channel x) := by
  rw [freeChannel_eq, channel_writeChannel, if_neg other, dropNotice_channel]
  exact dropLine_keeps s f hf ch x

end

@[simp] theorem freeChannel_channel_self (ch : ChannelNo) : (s.freeChannel ch).channel ch = .free := by
  rw [freeChannel_eq, channel_writeChannel_self]

@[simp] theorem takeTrigger_state (l : LineNo) (x : ChannelNo) :
    ((s.takeTrigger l).channel x).state = (s.channel x).state :=
  takeTrigger_keeps s Channel.state (fun _ _ => rfl) l x

@[simp] theorem takeTrigger_owner (l : LineNo) (x : ChannelNo) :
    ((s.takeTrigger l).channel x).owner = (s.channel x).owner :=
  takeTrigger_keeps s Channel.owner (fun _ _ => rfl) l x

@[simp] theorem channelAble_state (ch x : ChannelNo) :
    ((s.channelAble ch).channel x).state = (s.channel x).state :=
  channelAble_keeps s Channel.state (fun _ _ => rfl) ch x

@[simp] theorem channelAble_owner (ch x : ChannelNo) :
    ((s.channelAble ch).channel x).owner = (s.channel x).owner :=
  channelAble_keeps s Channel.owner (fun _ _ => rfl) ch x

@[simp] theorem unmap_state (l : LineNo) (x : ChannelNo) :
    ((s.unmap l).channel x).state = (s.channel x).state :=
  unmap_keeps s Channel.state (fun _ _ _ => rfl) l x

@[simp] theorem unmap_owner (l : LineNo) (x : ChannelNo) :
    ((s.unmap l).channel x).owner = (s.channel x).owner :=
  unmap_keeps s Channel.owner (fun _ _ _ => rfl) l x

/-- ABORT in READY writes the record, with the line back in WAITING when it is PENDING for the channel
(R128). -/
theorem abortReady_cases (ch : ChannelNo) :
    s.abortReady ch =
        s.writeChannel ch { s.channel ch with state := .idle, credit := 0, linePending := false } ∨
      ∃ l, (s.channel ch).mappedLine = some l ∧ (s.channel ch).linePending = true ∧
        (s.line l).state = .pending ∧
        s.abortReady ch =
          (s.setLine l { s.line l with state := .waiting }).writeChannel ch
            { s.channel ch with state := .idle, credit := 0, linePending := false } := by
  unfold State.abortReady
  dsimp only
  split
  · next l mapped =>
    split
    · next pending => exact .inr ⟨l, mapped, pending.1, pending.2, rfl⟩
    · exact .inl rfl
  · exact .inl rfl

/-! ### Notices and parking of a freed channel -/

/-- A channel that becomes FREE leaves its owner's Parking List, and no other Notice Unit changes
(R143). -/
theorem freeChannel_noticeUnit (ch : ChannelNo) (p : Port) :
    (s.freeChannel ch).noticeUnit p =
      if (s.channel ch).owner = some p then (s.noticeUnit p).unpark ch else s.noticeUnit p := by
  rw [freeChannel_eq, noticeUnit_of_same (s := (s.dropLine ch).dropNotice (s.channel ch).owner ch) (by simp),
    dropNotice_noticeUnit, dropLine_noticeUnit]

end Sys2Proof.Machine
end

section
/-! PROOFS. What a command can do to channel records, run queues, lines and Notice Units: a command is a
sequence of moves, each said once with the conditions under which it is made. An invariant of those blocks
is proved move by move. -/

namespace Sys2Proof.Machine

variable {rel : Bool}

/-- One change of channel records, run queues, lines or Notice Units; `rel` says whether a release from
parking is allowed among them. -/
inductive Move (rel : Bool) : State → State → Prop where
  /-- Nothing but hand-offs, schedule, inputs, pool, apertures or buses changes; an engine's report may
  leave its queue. -/
  | quiet {s t : State} (channels : t.channels = s.channels) (trigger : t.trigger = s.trigger)
      (lines : t.lines = s.lines) (notices : t.notices = s.notices) (ports : t.ports = s.ports)
      (engines : t.engines = s.engines) (reports : t.wires.reports.Sublist s.wires.reports) : Move rel s t
  /-- CLAIM (R4). -/
  | claim {s : State} (p : Port) (ch : ChannelNo) (online : s.online p = true)
      (free : (s.channel ch).state = .free) :
      Move rel s (s.writeChannel ch { Channel.free with owner := some p, state := .idle })
  /-- A channel without a unit under way becomes FREE (R5, R26). -/
  | free {s : State} (ch : ChannelNo) (running : (s.channel ch).state ≠ .running)
      (stopping : (s.channel ch).state ≠ .stopping) : Move rel s (s.freeChannel ch)
  /-- LOAD (R10). -/
  | load {s : State} (ch : ChannelNo) (a : Table Word 8) (prog : Program)
      (takes : (s.channel ch).takesLoad = true) (passes : loadProgram a = .ok prog) :
      Move rel s (s.writeChannel ch ((s.channel ch).withProgram prog))
  /-- RESUME (R132). -/
  | resume {s : State} (ch : ChannelNo) (ld : Loaded) (faulted : (s.channel ch).state = .faulted)
      (loaded : (s.channel ch).loaded = some ld) :
      Move rel s (s.writeChannel ch
        { s.channel ch with state := .ready, credit := 0, linePending := false })
  /-- START or an accepted link delivery (R24, R28). -/
  | credit {s : State} (ch : ChannelNo) (able : (s.channel ch).canTake = true)
      (room : (s.channel ch).credit < 15) :
      Move rel s (s.writeChannel ch { s.channel ch with credit := (s.channel ch).credit + 1 })
  /-- ABORT in READY (R128). -/
  | abortReady {s : State} (ch : ChannelNo) (ready : (s.channel ch).state = .ready) :
      Move rel s (s.abortReady ch)
  /-- A RUNNING channel becomes STOPPING (R26, R66, R129). -/
  | stop {s : State} (ch : ChannelNo) (running : (s.channel ch).state = .running) :
      Move rel s (s.writeChannel ch { s.channel ch with state := .stopping })
  /-- ABORT in POSTING. -/
  | abortPosting {s : State} (ch : ChannelNo) (posting : (s.channel ch).state = .posting) :
      Move rel s (s.writeChannel ch { s.channel ch with afterState := some .idle, credit := 0 })
  /-- ABORT in FAULTED. -/
  | abortFaulted {s : State} (ch : ChannelNo) (faulted : (s.channel ch).state = .faulted) :
      Move rel s (s.writeChannel ch { s.channel ch with state := .idle })
  /-- A standing request is taken where R40 allows it. -/
  | takeTrigger {s : State} (l : LineNo) : Move rel s (s.takeTrigger l)
  /-- UNMAP_LINE or a teardown at the Line Map (R46, R48). -/
  | unmap {s : State} (l : LineNo) : Move rel s (s.unmap l)
  /-- MAP_LINE (R45). -/
  | mapLine {s : State} (p : Port) (l : LineNo) (ch : ChannelNo) (online : s.online p = true)
      (owned : (s.channel ch).owner = some p) (unmapped : (s.line l).state = .unmapped)
      (noLine : (s.channel ch).mappedLine = none) :
      Move rel s ((s.setLine l { s.line l with state := .waiting, mapping := some ⟨ch, p⟩ }).setChannel ch
        { s.channel ch with mappedLine := some l })
  /-- A line moves on, with no pending trigger in it (R41–R44). -/
  | line {s : State} (l : LineNo) (m : Mapping) (st : LineState) (acks : Nat)
      (mapped : (s.line l).mapping = some m)
      (leaves : (s.line l).state = .serving ∨ (s.line l).state = .acking ∨
        (s.line l).state = .pending ∧ (s.channel m.channel).linePending = false)
      (enters : st = .waiting ∨ st = .acking) :
      Move rel s (s.setLine l { s.line l with state := st, acks })
  /-- An ACKING line ends its acknowledgement (R43). -/
  | endAck {s : State} (l : LineNo) (acking : (s.line l).state = .acking) :
      Move rel s (s.setLine l { s.line l with state := .waiting })
  /-- Channels already FREE leave the run queues (R48). -/
  | dropFreed {s : State} : Move rel s s.dropFreed
  /-- A channel released from parking joins its queue (R144). -/
  | join {s : State} (ch : ChannelNo) (eligible : (s.channel ch).eligible = true) :
      Move rel s (s.joinQueue ch)
  /-- A dispatch (R32–R35). -/
  | dispatch {s : State} (e : EngineNo) (k : SchedClass) (ch : ChannelNo) (rest : List ChannelNo)
      (idle : s.idleEngine = some e) (head : s.trigger.queue k = ch :: rest) :
      Move rel s (s.dispatchHead e k ch rest)
  /-- A unit-end report at a RUNNING channel (R16–R19). -/
  | unitEnd {s t : State} (ch : ChannelNo) (r : Progress) (o : Origin)
      (report : s.takeReport ch = some (.unitEnd r o, t)) (running : (t.channel ch).state = .running) :
      Move rel s (t.unitEnd ch r o)
  /-- A stop report, or a unit-end report taken as one (R22, R23, R73). -/
  | stopUnit {s t : State} (ch : ChannelNo) (r : Progress) (c : StopCause) (b : ReportBody)
      (report : s.takeReport ch = some (b, t))
      (body : b = .stop r c ∨ c = .abort ∧ ∃ o, b = .unitEnd r o)
      (stopping : (t.channel ch).state = .stopping) : Move rel s (t.stopUnit ch r c)
  /-- A system notice is placed (R138). -/
  | place {s : State} (p : Port) (n : SystemNotice) (online : s.online p = true) :
      Move rel s (s.setNoticeUnit p ((s.noticeUnit p).placeSystem n))
  /-- A pop that releases no channel (R142). -/
  | pop {s : State} (p : Port) (x : NoticeRecord) (xs : List NoticeRecord) (online : s.online p = true)
      (queue : (s.noticeUnit p).queue = x :: xs)
      (stays : ({ s.noticeUnit p with queue := xs }.refill).2 = none) :
      Move rel s (s.setNoticeUnit p ({ s.noticeUnit p with queue := xs }.refill).1)
  /-- A pop that releases a channel from parking (R142, R144). -/
  | release {s : State} (p : Port) (x : NoticeRecord) (xs : List NoticeRecord) (ch : ChannelNo)
      (may : rel = true) (online : s.online p = true) (queue : (s.noticeUnit p).queue = x :: xs)
      (releases : ({ s.noticeUnit p with queue := xs }.refill).2 = some ch) :
      Move rel s ((s.setNoticeUnit p ({ s.noticeUnit p with queue := xs }.refill).1).unparkChannel ch)
  /-- INTEN is written (R145). -/
  | enable {s : State} (p : Port) (b : Bool) :
      Move rel s (s.setNoticeUnit p { s.noticeUnit p with enable := b })
  /-- A teardown clears a Notice Unit (R146). -/
  | clear {s : State} (p : Port) : Move rel s (s.setNoticeUnit p (s.noticeUnit p).cleared)

/-- Moves one after another. -/
abbrev Moves (rel : Bool) : State → State → Prop := Relation.ReflTransGen (Move rel)

/-! ### Moves that leave the hand-offs alone -/

section
variable {s t u : State}

theorem Moves.refl : Moves rel s s := Relation.ReflTransGen.refl

theorem Move.moves (h : Move rel s t) : Moves rel s t := Relation.ReflTransGen.single h

theorem Moves.after (h : Moves rel s t) (last : Move rel t u) : Moves rel s u := Relation.ReflTransGen.tail h last

theorem Moves.trans (h : Moves rel s t) (rest : Moves rel t u) : Moves rel s u := Relation.ReflTransGen.trans h rest

/-- Hand-offs change and nothing else, no engine's report among them. -/
theorem Moves.setWires {w : Wires} (reports : w.reports = s.wires.reports) : Moves rel s (s.setWires w) :=
  (Move.quiet (s := s) (t := s.setWires w) rfl rfl rfl rfl rfl rfl (by simp [reports])).moves

theorem Moves.setDirections (p : Port) (x : Directions) : Moves rel s (s.setDirections p x) := .setWires rfl

theorem Moves.sendField (p : Port) (f : TeardownField) : Moves rel s (s.sendField p f) := .setWires rfl

theorem Moves.setTableClearing (p : Port) (b : Bool) : Moves rel s (s.setTableClearing p b) :=
  (Move.quiet (s := s) (t := s.setTableClearing p b) rfl rfl rfl rfl rfl rfl (.refl _)).moves

theorem Moves.channelAble (ch : ChannelNo) : Moves rel s (s.channelAble ch) := by
  unfold State.channelAble
  split
  · exact (Move.takeTrigger _).moves
  · exact .refl

theorem ownerTakes_moves {c : Command} {act : Act} {p : Port}
    (effect : ∀ a u, Moves rel u (act p a u).2) (s : State) : Moves rel s (ownerTakes c act p s) :=
  ownerTakes_keeps (P := Moves rel s) (fun _ _ h => h.trans (.setWires rfl))
    (fun _ _ h => h.trans (.setWires rfl)) (fun a u h => h.trans (effect a u)) .refl

theorem foldl_moves {α : Type} {f : State → α → State} (each : ∀ u x, Moves rel u (f u x)) (xs : List α)
    (s : State) : Moves rel s (xs.foldl f s) :=
  foldl_keeps (P := Moves rel s) (fun u x h => h.trans (each u x)) xs .refl

theorem takeReport_eq {ch : ChannelNo} {b : ReportBody} (h : s.takeReport ch = some (b, t)) :
    ∃ rest, t = s.setWires { s.wires with reports := rest } := by
  unfold State.takeReport at h
  split at h
  · cases h
    exact ⟨_, rfl⟩
  · cases h

theorem takeFirst_sublist {α : Type} {f : α → Bool} {xs ys : List α} {y : α}
    (h : takeFirst f xs = some (y, ys)) : ys.Sublist xs := by
  induction xs generalizing y ys with
  | nil => cases h
  | cons x xs ih =>
    unfold takeFirst at h
    split at h
    · cases h
      exact List.sublist_cons_self _ _
    · split at h
      · next rest => cases h; exact (ih rest).cons_cons _
      · cases h

theorem Move.takeReport {ch : ChannelNo} {b : ReportBody} (h : s.takeReport ch = some (b, t)) :
    Move rel s t := by
  unfold State.takeReport at h
  split at h
  · next rest =>
    cases h
    exact .quiet rfl rfl rfl rfl rfl rfl (takeFirst_sublist rest)
  · cases h

end

/-! ### What a passed check says -/

theorem channelCheck_eq_ok {s : State} {p : Port} {w : Word} {needsOwner : Bool} {ch : ChannelNo}
    (h : channelCheck s p w needsOwner = .ok ch) :
    s.online p = true ∧ (needsOwner = true → (s.channel ch).owner = some p) := by
  unfold channelCheck at h
  repeat' split at h
  all_goals cases h
  next online _ _ owned =>
    refine ⟨by simpa using online, fun needs => ?_⟩
    simpa [needs] using owned

/-! ### The channel commands -/

section
variable (p : Port) (a : Table Word 8) (s : State)

theorem claimAct_moves : Moves rel s (claimAct p a s).2 := by
  unfold claimAct
  split
  · exact .refl
  · next passed =>
    split
    · next free => exact (Move.claim p _ (channelCheck_eq_ok passed).1 free).moves
    · exact .refl

theorem releaseAct_moves : Moves rel s (releaseAct p a s).2 := by
  unfold releaseAct
  split
  · exact .refl
  · split
    iterate 3 next at_ => exact (Move.free _ (by simp [at_]) (by simp [at_])).moves
    exact .refl

theorem loadAct_moves : Moves rel s (loadAct p a s).2 := by
  unfold loadAct
  split
  · exact .refl
  · split
    · next takes =>
      split
      · exact .refl
      · next passes => exact (Move.load _ a _ takes passes).moves.trans (.channelAble _)
    · exact .refl

theorem resumeAct_moves : Moves rel s (resumeAct p a s).2 := by
  unfold resumeAct
  dsimp only
  split
  · exact .refl
  · split
    · next faulted loaded =>
      split
      · exact .refl
      · exact (Move.resume _ _ faulted loaded).moves.trans (.channelAble _)
    · exact .refl

theorem startAct_moves : Moves rel s (startAct p a s).2 := by
  unfold startAct
  dsimp only
  split
  · exact .refl
  · split
    · exact .refl
    · next able =>
      split
      · exact .refl
      · next room =>
        refine (Move.credit _ (by simpa using able) ?_).moves
        simpa [Config.creditMax] using room

theorem abortAct_moves : Moves rel s (abortAct p a s).2 := by
  unfold abortAct
  dsimp only
  split
  · exact .refl
  · split
    · exact .refl
    · exact .refl
    · next ready => exact (Move.abortReady _ ready).moves
    · next running => exact (Move.stop _ running).moves.trans (.setWires rfl)
    · exact .refl
    · next posting => exact (Move.abortPosting _ posting).moves
    · next faulted => exact (Move.abortFaulted _ faulted).moves

theorem mapLineAct_moves : Moves rel s (mapLineAct p a s).2 := by
  unfold mapLineAct
  dsimp only
  split
  · exact .refl
  · next online =>
    repeat' split
    all_goals try exact .refl
    next owned unmapped noLine =>
      refine (Move.mapLine p _ _ (by simpa using online) (by simpa using owned)
        (by simpa using unmapped) (by simpa using noLine)).moves.after (.takeTrigger _)

theorem unmapLineAct_moves : Moves rel s (unmapLineAct p a s).2 := by
  unfold unmapLineAct
  repeat' split
  all_goals try exact .refl
  exact (Move.unmap _).moves

theorem popNoticeAct_moves : Moves true s (popNoticeAct p a s).2 := by
  unfold popNoticeAct
  dsimp only
  split
  · exact .refl
  · next online =>
    split
    · exact .refl
    · next queue =>
      split
      · next releases => exact (Move.release p _ _ _ rfl (by simpa using online) queue releases).moves
      · next stays => exact (Move.pop p _ _ (by simpa using online) queue stays).moves

end

/-! ### Reports, deliveries and teardowns -/

section
variable {s t : State}

theorem execFaultMessage_moves {ch : ChannelNo} (ran : execFaultMessage ch s = .next t) :
    Moves rel s t := by
  unfold execFaultMessage at ran
  dsimp only at ran
  split at ran
  · next taken =>
    split at ran
    · next running =>
      cases ran
      exact (Move.takeReport taken).moves.after (.stop _ running)
    · cases ran
      exact (Move.takeReport taken).moves
  · cases ran
    exact .refl

theorem execUnitEndReport_moves {ch : ChannelNo} (ran : execUnitEndReport ch s = .next t) :
    Moves rel s t := by
  unfold execUnitEndReport at ran
  split at ran
  · next taken =>
    split at ran
    · next running =>
      cases ran
      exact (Move.unitEnd _ _ _ taken running).moves
    · next stopping =>
      cases ran
      exact (Move.stopUnit _ _ _ _ taken (.inr ⟨rfl, _, rfl⟩) stopping).moves
    · cases ran
      exact (Move.takeReport taken).moves
  · cases ran
    exact .refl

theorem execStopReport_moves {ch : ChannelNo} (ran : execStopReport ch s = .next t) : Moves rel s t := by
  unfold execStopReport at ran
  split at ran
  · next taken =>
    split at ran
    · next stopping =>
      cases ran
      exact (Move.stopUnit _ _ _ _ taken (.inl rfl) stopping).moves
    · cases ran
      exact (Move.takeReport taken).moves
  · cases ran
    exact .refl

theorem linkCheck_eq_none {c : Channel} {p : Port} (h : linkCheck c p = none) :
    c.owner = some p ∧ c.canTake = true ∧ c.credit < 15 := by
  unfold linkCheck at h
  repeat' split at h
  all_goals cases h
  next owned able room =>
    exact ⟨by simpa using owned, by simpa using able, by simpa [Config.creditMax] using room⟩

theorem deliverLink_moves (s : State) (w : LinkWord) : Moves rel s (s.deliverLink w) := by
  unfold State.deliverLink
  dsimp only
  split
  · split
    · exact .setWires rfl
    · exact .refl
  · next passes =>
    obtain ⟨-, able, room⟩ := linkCheck_eq_none passes
    exact (Move.credit _ able room).moves

theorem execLinkDelivery_moves {n : Nat} (ran : execLinkDelivery n s = .next t) : Moves rel s t := by
  unfold execLinkDelivery at ran
  split at ran <;> cases ran
  · refine Moves.trans ?_ (deliverLink_moves _ _)
    exact .setWires rfl
  · exact .refl

theorem tearDownChannel_moves (s : State) (p : Port) (ch : ChannelNo) :
    Moves rel s (s.tearDownChannel p ch) := by
  unfold State.tearDownChannel
  dsimp only
  split
  · split
    · next running => exact (Move.stop _ running).moves.trans (.setWires rfl)
    · exact .setWires rfl
    · next running stopping => exact (Move.free _ running stopping).moves
  · exact .refl

theorem reportChannels_moves (s : State) (p : Port) : Moves rel s (s.reportChannels p) := by
  unfold State.reportChannels
  split
  · exact (Moves.setTableClearing p false).trans (.sendField p .channels)
  · exact .refl

theorem execChannelTableTeardown_moves {p : Port} (ran : execChannelTableTeardown p s = .next t) :
    Moves rel s t := by
  unfold execChannelTableTeardown at ran
  dsimp only at ran
  split at ran <;> cases ran
  · have begun : Moves rel s ((s.setDirections p
        { s.wires.directions.get p with channelTable := false }).setTableClearing p true) :=
      (Moves.setDirections p _).trans (.setTableClearing p true)
    exact (begun.trans (foldl_moves (fun u ch => tearDownChannel_moves u p ch) _ _)).trans
      (reportChannels_moves _ _)
  · exact .refl

/-! ### The Trigger Unit and the Line Map -/

theorem execDispatch_moves (ran : execDispatch s = .next t) : Moves rel s t := by
  unfold execDispatch at ran
  split at ran
  · next idle _ =>
    split at ran
    · next head =>
      cases ran
      exact (Move.dispatch _ _ _ _ idle head).moves
    · cases ran
      exact .refl
  · cases ran
    exact .refl

theorem execRunQueueJoin_moves {ch : ChannelNo} (ran : execRunQueueJoin ch s = .next t) :
    Moves rel s t := by
  unfold execRunQueueJoin at ran
  split at ran <;> cases ran
  · next eligible => exact (Move.join _ eligible).moves
  · exact .refl

theorem Moves.setReq (l : LineNo) (b : Bool) : Moves rel s (s.setReq l b) :=
  (Move.quiet (s := s) (t := s.setReq l b) rfl rfl rfl rfl rfl rfl (.refl _)).moves

theorem execReqDeasserted_moves {l : LineNo} (ran : execReqDeasserted l s = .next t) : Moves rel s t := by
  unfold execReqDeasserted at ran
  dsimp only at ran
  split at ran <;> cases ran
  · next acking => exact (Moves.setReq l false).after (.endAck l acking)
  · exact .setReq l false

theorem acknowledgeLine_moves (s : State) (w : LineWord) : Moves rel s (s.acknowledgeLine w) := by
  unfold State.acknowledgeLine
  dsimp only
  split
  · next mapped =>
    split
    · next here =>
      refine (Move.line _ _ _ _ mapped (.inl here.1) ?_).moves
      split <;> simp
    · exact .refl
  · exact .refl

theorem execLineAcknowledge_moves {l : LineNo} (ran : execLineAcknowledge l s = .next t) :
    Moves rel s t := by
  unfold execLineAcknowledge at ran
  split at ran <;> cases ran
  · refine Moves.trans ?_ (acknowledgeLine_moves _ _)
    exact .setWires rfl
  · exact .refl

theorem returnServing_moves (s : State) (w : LineWord) : Moves rel s (s.returnServing w) := by
  unfold State.returnServing
  dsimp only
  split
  · next mapped =>
    split
    · next here =>
      exact (Move.line _ _ _ _ mapped (.inl here.1) (.inl rfl)).moves.after (.takeTrigger _)
    · exact .refl
  · exact .refl

theorem execLineReturn_moves {l : LineNo} (ran : execLineReturn l s = .next t) : Moves rel s t := by
  unfold execLineReturn at ran
  split at ran <;> cases ran
  · refine Moves.trans ?_ (returnServing_moves _ _)
    exact .setWires rfl
  · exact .refl

theorem execLinePendingDrop_moves {l : LineNo} (ran : execLinePendingDrop l s = .next t) :
    Moves rel s t := by
  unfold execLinePendingDrop at ran
  dsimp only at ran
  split at ran
  · next mapped =>
    split at ran <;> cases ran
    · next here =>
      exact (Move.line _ _ _ _ mapped (.inr (.inr here)) (.inl rfl)).moves.after (.takeTrigger _)
    · exact .refl
  · cases ran
    exact .refl

theorem unmapOf_moves (s : State) (p : Port) (l : LineNo) : Moves rel s (s.unmapOf p l) := by
  unfold State.unmapOf
  repeat' split
  · exact (Move.unmap _).moves
  · exact .refl
  · exact .refl

theorem dropFreed_sendField_moves (s : State) (p : Port) :
    Moves rel s (s.dropFreed.sendField p .lines) :=
  Moves.trans (Move.moves .dropFreed) (.sendField p .lines)

theorem execTriggerUnitTeardown_moves {p : Port} (ran : execTriggerUnitTeardown p s = .next t) :
    Moves rel s t := by
  unfold execTriggerUnitTeardown at ran
  dsimp only at ran
  split at ran
  · let u := s.setDirections p { s.wires.directions.get p with triggerUnit := false }
    have begun : Moves rel s u := .setDirections p _
    have torn := begun.trans (foldl_moves (fun t l => unmapOf_moves t p l) (List.finRange 16) u)
    rw [← Host.Outcome.next.inj ran]
    exact torn.trans (dropFreed_sendField_moves _ p)
  · cases ran
    exact .refl

/-! ### The Notice Units -/

theorem takePosting_moves (s : State) (p : Port) (n : SystemNotice) : Moves rel s (s.takePosting p n) := by
  unfold State.takePosting
  split
  · next online => exact (Move.place p n online).moves
  · exact .refl

theorem execSystemNoticePosting_moves {p : Port} {n : Nat}
    (ran : execSystemNoticePosting p n s = .next t) : Moves rel s t := by
  unfold execSystemNoticePosting at ran
  split at ran <;> cases ran
  · refine Moves.trans ?_ (takePosting_moves _ _ _)
    exact .setWires rfl
  · exact .refl

theorem execIntenWrite_moves {p : Port} {v : Word} (ran : execIntenWrite p v s = .next t) :
    Moves rel s t := by
  unfold execIntenWrite at ran
  split at ran <;> cases ran
  · exact .refl
  · exact (Move.enable p _).moves

theorem execNoticeUnitClear_moves {p : Port} (ran : execNoticeUnitClear p s = .next t) :
    Moves rel s t := by
  unfold execNoticeUnitClear at ran
  dsimp only at ran
  split at ran <;> cases ran
  · have begun : Moves rel s (s.setDirections p { s.wires.directions.get p with noticeUnit := false }) :=
      .setDirections p _
    exact (begun.after (.clear p)).trans (.sendField p .notices)
  · exact .refl

end

/-! ### Every command -/

/-- Commands that write channel records, run queues, lines or Notice Units. -/
def movesRecords (c : Instr) : Bool :=
  (writesOf c).any fun b =>
    match b with
    | .channels | .trigger | .lines | .notices => true
    | _ => false

/-- The one command that releases a channel from parking (R144). -/
def releasesParked : Instr → Bool
  | .popNotice _ => true
  | _ => false

theorem exec_moves {c : Instr} {s t : State} (records : movesRecords c = true) (reset : c ≠ .powerOnReset)
    (ran : exec c s = .next t) : Moves (releasesParked c) s t := by
  cases c with
  | claim p => cases ran; exact ownerTakes_moves (claimAct_moves p) s
  | release p => cases ran; exact ownerTakes_moves (releaseAct_moves p) s
  | load p => cases ran; exact ownerTakes_moves (loadAct_moves p) s
  | start p => cases ran; exact ownerTakes_moves (startAct_moves p) s
  | abort p => cases ran; exact ownerTakes_moves (abortAct_moves p) s
  | resume p => cases ran; exact ownerTakes_moves (resumeAct_moves p) s
  | mapLine p => cases ran; exact ownerTakes_moves (mapLineAct_moves p) s
  | unmapLine p => cases ran; exact ownerTakes_moves (unmapLineAct_moves p) s
  | popNotice p => cases ran; exact ownerTakes_moves (popNoticeAct_moves p) s
  | intenWrite p v => exact execIntenWrite_moves ran
  | reqAsserted l => cases ran; exact (Moves.setReq l true).after (.takeTrigger l)
  | reqDeasserted l => exact execReqDeasserted_moves ran
  | lineChannelAble l => cases ran; exact (Move.takeTrigger l).moves
  | lineAcknowledge l => exact execLineAcknowledge_moves ran
  | lineReturn l => exact execLineReturn_moves ran
  | linePendingDrop l => exact execLinePendingDrop_moves ran
  | dispatch => exact execDispatch_moves ran
  | runQueueJoin ch => exact execRunQueueJoin_moves ran
  | faultMessage ch => exact execFaultMessage_moves ran
  | unitEndReport ch => exact execUnitEndReport_moves ran
  | stopReport ch => exact execStopReport_moves ran
  | linkDelivery n => exact execLinkDelivery_moves ran
  | systemNoticePosting p n => exact execSystemNoticePosting_moves ran
  | channelTableTeardown p => exact execChannelTableTeardown_moves ran
  | triggerUnitTeardown p => exact execTriggerUnitTeardown_moves ran
  | noticeUnitClear p => exact execNoticeUnitClear_moves ran
  | powerOnReset => exact absurd rfl reset
  | _ => simp [movesRecords] at records

/-- The rest of the commands leave those blocks as they are. -/
theorem exec_records {c : Instr} {s t : State} (records : movesRecords c = false)
    (ran : exec c s = .next t) :
    t.channels = s.channels ∧ t.trigger = s.trigger ∧ t.lines = s.lines ∧ t.notices = s.notices := by
  have quiet (b : Block) (here : b = .channels ∨ b = .trigger ∨ b = .lines ∨ b = .notices) :
      b ∉ writesOf c := fun writes => by
    simp only [movesRecords, List.any_eq_false] at records
    obtain rfl | rfl | rfl | rfl := here <;> simpa using records _ writes
  exact ⟨exec_frame ran .channels (quiet _ (by simp)), exec_frame ran .trigger (quiet _ (by simp)),
    exec_frame ran .lines (quiet _ (by simp)), exec_frame ran .notices (quiet _ (by simp))⟩

/-- An invariant of channel records, run queues, lines and Notice Units, kept by each move and met after
reset, is kept by every command. -/
theorem exec_keeps_records {P : State → Prop}
    (same : ∀ s t : State, t.channels = s.channels → t.trigger = s.trigger → t.lines = s.lines →
      t.notices = s.notices → P s → P t)
    (reset : P State.reset) (move : ∀ rel s t, Move rel s t → P s → P t) {c : Instr} {s t : State}
    (ran : exec c s = .next t) (h : P s) : P t := by
  by_cases isReset : c = .powerOnReset
  · subst isReset
    cases ran
    exact same .reset _ rfl rfl rfl rfl reset
  · cases records : movesRecords c with
    | false =>
      obtain ⟨channels, trigger, lines, notices⟩ := exec_records records ran
      exact same s t channels trigger lines notices h
    | true =>
      have moves := exec_moves records isReset ran
      clear ran
      induction moves with
      | refl => exact h
      | tail _ last ih => exact move _ _ _ last ih

end Sys2Proof.Machine
end

section
/-! PROOFS. Channel records, run queues and skip counters: each move of a record keeps the conditions of
R1, R28, R30, R31 and R34, and every eligible channel stays queued but for one released from parking. -/

namespace Sys2Proof.Machine

/-! ### One channel record (R1, R14, R28) -/

namespace Channel

theorem sound_free : Channel.free.Sound := by
  constructor <;> simp [Channel.free]

theorem eligible_iff {c : Channel} :
    c.eligible = true ↔ c.state = .ready ∧ (0 < c.credit ∨ c.linePending = true) := by
  simp [Channel.eligible]

section
variable {c : Channel} (h : c.Sound)
include h

/-- A record that is READY carries neither after-state nor unit origin. -/
theorem Sound.outside_unit (posting : c.state ≠ .posting) : c.afterState = none := by
  simpa [posting] using h.after

theorem Sound.without_origin (running : c.state ≠ .running) (stopping : c.state ≠ .stopping) :
    c.origin = none := by
  simpa [running, stopping] using h.origin

theorem Sound.owner_of_state {st : ChannelState} (at_ : c.state = st) (used : st ≠ .free) :
    c.owner.isSome :=
  h.owned (at_ ▸ used)

theorem Sound.load (takes : c.takesLoad = true) (prog : Program) : (c.withProgram prog).Sound := by
  have settled : c.state = .idle ∨ c.state = .faulted ∨ c.state = .ready := by
    unfold takesLoad at takes
    split at takes <;> simp_all
  have owner : c.owner.isSome := h.owned (by rintro free; simp [free] at settled)
  have after := h.outside_unit (by rintro posting; simp [posting] at settled)
  have origin := h.without_origin (by rintro st; simp [st] at settled)
    (by rintro st; simp [st] at settled)
  constructor <;> simp [withProgram, owner, after, origin]

theorem Sound.resume (faulted : c.state = .faulted) :
    { c with state := .ready, credit := 0, linePending := false }.Sound := by
  have owner := h.owner_of_state faulted (by decide)
  have after := h.outside_unit (by simp [faulted])
  have origin := h.without_origin (by simp [faulted]) (by simp [faulted])
  have loaded := h.loaded (by simp [faulted]) (by simp [faulted])
  constructor <;> simp [owner, after, origin, loaded]

theorem Sound.credited (able : c.canTake = true) (room : c.credit < 15) :
    { c with credit := c.credit + 1 }.Sound := by
  rw [canTake_iff] at able
  obtain ⟨free, owned, after, origin, loaded, -, -⟩ := h
  refine ⟨fun isFree : c.state = .free => ?_, owned, after, origin, loaded, room,
    fun quiet : c.state = .idle ∨ c.state = .faulted => ?_⟩
  · simp [isFree] at able
  · obtain quiet | quiet := quiet <;> simp [quiet] at able

theorem Sound.pending (able : c.canTake = true) : { c with linePending := true }.Sound := by
  rw [canTake_iff] at able
  obtain ⟨free, owned, after, origin, loaded, credit, -⟩ := h
  refine ⟨fun isFree : c.state = .free => ?_, owned, after, origin, loaded, credit,
    fun quiet : c.state = .idle ∨ c.state = .faulted => ?_⟩
  · simp [isFree] at able
  · obtain quiet | quiet := quiet <;> simp [quiet] at able

theorem Sound.unmapped : { c with mappedLine := none, linePending := false }.Sound := by
  obtain ⟨free, owned, after, origin, loaded, credit, quiet⟩ := h
  refine ⟨fun isFree => ?_, owned, after, origin, loaded, credit, fun settled => ⟨(quiet settled).1, rfl⟩⟩
  rw [free isFree]
  rfl

theorem Sound.mapped {p : Port} (owner : c.owner = some p) (l : LineNo) :
    { c with mappedLine := some l }.Sound := by
  obtain ⟨free, owned, after, origin, loaded, credit, quiet⟩ := h
  refine ⟨fun isFree => ?_, owned, after, origin, loaded, credit, quiet⟩
  simp [free isFree, Channel.free] at owner

theorem Sound.abortReady (ready : c.state = .ready) :
    { c with state := .idle, credit := 0, linePending := false }.Sound := by
  have owner := h.owner_of_state ready (by decide)
  have after := h.outside_unit (by simp [ready])
  have origin := h.without_origin (by simp [ready]) (by simp [ready])
  constructor <;> simp [owner, after, origin]

theorem Sound.stopping (running : c.state = .running) : { c with state := .stopping }.Sound := by
  have owner := h.owner_of_state running (by decide)
  have after := h.outside_unit (by simp [running])
  have origin := h.origin.2 (.inl running)
  have loaded := h.loaded (by simp [running]) (by simp [running])
  have credit := h.credit
  constructor <;> simp [owner, after, origin, loaded, credit]

theorem Sound.abortPosting (posting : c.state = .posting) :
    { c with afterState := some .idle, credit := 0 }.Sound := by
  have owner := h.owner_of_state posting (by decide)
  have origin := h.without_origin (by simp [posting]) (by simp [posting])
  have loaded := h.loaded (by simp [posting]) (by simp [posting])
  constructor <;> simp [owner, posting, origin, loaded]

theorem Sound.abortFaulted (faulted : c.state = .faulted) : { c with state := .idle }.Sound := by
  have owner := h.owner_of_state faulted (by decide)
  have after := h.outside_unit (by simp [faulted])
  have origin := h.without_origin (by simp [faulted]) (by simp [faulted])
  obtain ⟨credit, pending⟩ := h.quiet (.inr faulted)
  constructor <;> simp [owner, after, origin, credit, pending]

theorem Sound.progressed (running : c.state = .running) (ld : Loaded) :
    { c with loaded := some ld }.Sound := by
  obtain ⟨free, owned, after, origin, loaded, credit, quiet⟩ := h
  refine ⟨fun isFree => ?_, owned, after, origin, fun _ _ => rfl, credit, quiet⟩
  simp [running] at isFree

theorem Sound.stopped (stopping : c.state = .stopping) (ld : Loaded) (cause : StopCause) :
    (c.stopped ld cause).Sound := by
  have owner := h.owner_of_state stopping (by decide)
  have after := h.outside_unit (by simp [stopping])
  have origin := h.origin.2 (.inr stopping)
  constructor <;> simp [Channel.stopped, stopping, owner, after, origin]

theorem Sound.settled (loaded : c.loaded.isSome) (owner : c.owner.isSome) (next : AfterState) :
    (c.settled next).Sound := by
  have credit := h.credit
  cases next <;> constructor <;> simp [Channel.settled, loaded, owner, credit]

theorem Sound.posted (loaded : c.loaded.isSome) (owner : c.owner.isSome) (next : AfterState) :
    { c with state := .posting, afterState := some next, origin := none, servedLine := none }.Sound := by
  have credit := h.credit
  constructor <;> simp [loaded, owner, credit]

theorem Sound.dispatched (ready : c.state = .ready) : c.dispatched.Sound := by
  have owner := h.owner_of_state ready (by decide)
  have after := h.outside_unit (by simp [ready])
  have loaded := h.loaded (by simp [ready]) (by simp [ready])
  have credit := h.credit
  unfold Channel.dispatched
  split <;> constructor <;> simp [owner, after, loaded] <;> omega

end

theorem sound_claimed (p : Port) : { Channel.free with owner := some p, state := .idle }.Sound := by
  constructor <;> simp [Channel.free]

end Channel

/-! ### Run queues and skip counters (R30, R31, R34) -/

namespace TriggerUnit

/-- The channels that `f` picks stay, in their order. -/
def keep (t : TriggerUnit) (f : ChannelNo → Bool) : TriggerUnit :=
  { t with urgent := t.urgent.filter f, normal := t.normal.filter f, bulk := t.bulk.filter f }.settle

variable (t : TriggerUnit)

theorem leave_eq_keep (ch : ChannelNo) : t.leave ch = t.keep (· != ch) := rfl

theorem queue_keep (f : ChannelNo → Bool) (k : SchedClass) :
    (t.keep f).queue k = (t.queue k).filter f := by
  cases k <;> rfl

theorem all_keep (f : ChannelNo → Bool) : (t.keep f).all = t.all.filter f := by
  simp [TriggerUnit.all, keep, settle]

theorem mem_all {ch : ChannelNo} : ch ∈ t.all ↔ ∃ k, ch ∈ t.queue k := by
  rw [← t.holds_iff ch]
  simp [TriggerUnit.all, holds, or_assoc]

theorem queue_join (k j : SchedClass) (ch : ChannelNo) :
    (t.join k ch).queue j =
      if t.holds ch = false ∧ j = k then t.queue k ++ [ch] else t.queue j := by
  unfold join
  cases t.holds ch with
  | true => simp
  | false => simp [queue_setQueue]

theorem nodup_setQueue_append {k : SchedClass} {ch : ChannelNo} (once : t.all.Nodup)
    (out : ch ∉ t.all) : (t.setQueue k (t.queue k ++ [ch])).all.Nodup := by
  have perm : (t.setQueue k (t.queue k ++ [ch])).all.Perm (ch :: t.all) := by
    cases k
    · simp [TriggerUnit.all, setQueue, queue]
    · simpa [TriggerUnit.all, setQueue, queue] using
        List.perm_middle (a := ch) (l₁ := t.urgent ++ t.normal) (l₂ := t.bulk)
    · simp [TriggerUnit.all, setQueue, queue, ← List.append_assoc]
  rw [perm.nodup_iff]
  exact List.nodup_cons.2 ⟨out, once⟩

theorem nodup_join (once : t.all.Nodup) (k : SchedClass) (ch : ChannelNo) :
    (t.join k ch).all.Nodup := by
  unfold join
  split
  · exact once
  · next out =>
    rw [t.holds_iff, ← t.mem_all] at out
    exact t.nodup_setQueue_append once out

/-- R34 of the skip counters. -/
def Skips (t : TriggerUnit) : Prop :=
  t.normalSkip ≤ 8 ∧ t.bulkSkip ≤ 8 ∧ (t.normal = [] → t.normalSkip = 0) ∧
    (t.bulk = [] → t.bulkSkip = 0)

variable {t}

theorem Skips.settle (normal : t.normalSkip ≤ 8) (bulk : t.bulkSkip ≤ 8) : t.settle.Skips := by
  simp only [TriggerUnit.settle, Skips, List.isEmpty_iff]
  refine ⟨?_, ?_, fun empty => if_pos empty, fun empty => if_pos empty⟩ <;> split <;> omega

theorem Skips.keep (h : t.Skips) (f : ChannelNo → Bool) : (t.keep f).Skips :=
  .settle h.1 h.2.1

theorem Skips.join (h : t.Skips) (k : SchedClass) (ch : ChannelNo) : (t.join k ch).Skips := by
  obtain ⟨normal, bulk, noNormal, noBulk⟩ := h
  unfold TriggerUnit.join
  split
  · exact ⟨normal, bulk, noNormal, noBulk⟩
  · cases k
    · exact ⟨normal, bulk, noNormal, noBulk⟩
    · exact ⟨normal, bulk, by simp [setQueue], noBulk⟩
    · exact ⟨normal, bulk, noNormal, by simp [setQueue]⟩

theorem Skips.countSkips (h : t.Skips) (k : SchedClass) (q : List ChannelNo) :
    ((t.setQueue k q).countSkips k).Skips := by
  obtain ⟨normal, bulk, -, -⟩ := h
  refine ⟨?_, ?_, fun empty => ?_, fun empty => ?_⟩
  · rw [normalSkip_countSkips, setQueue_normalSkip]
    split_ifs <;> omega
  · rw [bulkSkip_countSkips, setQueue_bulkSkip]
    split_ifs <;> omega
  · rw [normalSkip_countSkips, if_pos empty]
  · rw [bulkSkip_countSkips, if_pos empty]

end TriggerUnit

/-! ### Records and queues together -/

/-- Every queued channel is eligible and stands in the queue of its class (R31). -/
def State.QueuedEligible (s : State) : Prop :=
  ∀ k ch, ch ∈ s.trigger.queue k →
    (s.channel ch).eligible = true ∧ ∃ ld, (s.channel ch).loaded = some ld ∧ ld.program.cls = k

theorem recordsSound_iff {s : State} :
    s.RecordsSound ↔
      s.ChannelsSound ∧ (s.trigger.all.Nodup ∧ s.QueuedEligible) ∧ s.trigger.Skips := Iff.rfl

/-- The class of the loaded program. -/
def Channel.cls (c : Channel) : Option SchedClass := c.loaded.map (·.program.cls)

section
variable {s t : State}

theorem recordsSound_of_same (channels : t.channels = s.channels) (trigger : t.trigger = s.trigger)
    (h : s.RecordsSound) : t.RecordsSound := by
  obtain ⟨records, queues, skips⟩ := h
  refine ⟨fun ch => ?_, ⟨trigger ▸ queues.1, fun k ch => ?_⟩, ?_⟩
  · rw [channel_of_same channels]
    exact records ch
  · rw [trigger, channel_of_same channels]
    exact queues.2 k ch
  · rw [State.SkipsSound, trigger]
    exact skips

theorem eligibleQueued_of_same (channels : t.channels = s.channels) (trigger : t.trigger = s.trigger)
    (h : s.EligibleQueued) : t.EligibleQueued := by
  intro ch
  rw [channel_of_same channels, trigger]
  exact h ch

/-- What the shared write of a record makes of the Trigger Unit (R14). -/
theorem writeChannel_trigger_cases (s : State) (ch : ChannelNo) {c : Channel} (sound : c.Sound) :
    ((s.channel ch).eligible = c.eligible ∧ (s.writeChannel ch c).trigger = s.trigger) ∨
      ((s.channel ch).eligible = false ∧ c.eligible = true ∧
        ∃ ld, c.loaded = some ld ∧
          (s.writeChannel ch c).trigger = s.trigger.join ld.program.cls ch) ∨
      (c.eligible = false ∧ (s.writeChannel ch c).trigger = s.trigger.leave ch) := by
  by_cases same : (s.channel ch).eligible = c.eligible
  · exact .inl ⟨same, by rw [writeChannel_of_eligible_eq s same]; rfl⟩
  · cases now : c.eligible with
    | false =>
      rw [now, Bool.not_eq_false] at same
      exact .inr (.inr ⟨rfl, by rw [writeChannel_of_loses_eligible s same now]; rfl⟩)
    | true =>
      rw [now, Bool.not_eq_true] at same
      have ready := (Channel.eligible_iff.1 now).1
      obtain ⟨ld, loaded⟩ := Option.isSome_iff_exists.1 (sound.loaded (by simp [ready]) (by simp [ready]))
      exact .inr (.inl ⟨same, rfl, ld, loaded, by
        rw [writeChannel_of_becomes_eligible s same now loaded]; rfl⟩)

/-- The shared write keeps records and queues in step, as long as it changes no class of a channel that
stays eligible. -/
theorem State.RecordsSound.writeChannel (h : s.RecordsSound) (ch : ChannelNo) {c : Channel} (sound : c.Sound)
    (cls : (s.channel ch).eligible = true → c.eligible = true → c.cls = (s.channel ch).cls) :
    (s.writeChannel ch c).RecordsSound := by
  obtain ⟨records, ⟨once, queued⟩, skips⟩ := recordsSound_iff.1 h
  have records' : (s.writeChannel ch c).ChannelsSound := fun x => by
    rw [channel_writeChannel]
    split
    · exact sound
    · exact records x
  refine recordsSound_iff.2 ⟨records', ?_⟩
  have others (k : SchedClass) (x : ChannelNo) (apart : ch ≠ x) (hx : x ∈ s.trigger.queue k) :
      ((s.writeChannel ch c).channel x).eligible = true ∧
        ∃ ld, ((s.writeChannel ch c).channel x).loaded = some ld ∧ ld.program.cls = k := by
    rw [channel_writeChannel, if_neg apart]
    exact queued k x hx
  obtain ⟨same, trigger⟩ | ⟨was, now, ld, loaded, trigger⟩ | ⟨now, trigger⟩ :=
    writeChannel_trigger_cases s ch sound
  · rw [State.QueuedEligible, trigger]
    refine ⟨⟨once, fun k x hx => ?_⟩, skips⟩
    by_cases here : ch = x
    · subst here
      obtain ⟨eligible, ld, loaded, class_⟩ := queued k ch hx
      rw [channel_writeChannel_self, ← same]
      have kept := cls eligible (same ▸ eligible)
      simp only [Channel.cls, loaded, Option.map_some, Option.map_eq_some_iff] at kept
      obtain ⟨now, isLoaded, class'⟩ := kept
      exact ⟨eligible, now, isLoaded, class'.trans class_⟩
    · exact others k x here hx
  · rw [State.QueuedEligible, trigger]
    refine ⟨⟨s.trigger.nodup_join once _ ch, fun k x hx => ?_⟩, skips.join _ ch⟩
    rw [TriggerUnit.queue_join] at hx
    by_cases here : ch = x
    · subst here
      rw [channel_writeChannel_self]
      refine ⟨now, ld, loaded, ?_⟩
      by_contra other
      rw [if_neg fun joins => other joins.2.symm] at hx
      have := (queued k ch hx).1
      simp [was] at this
    · refine others k x here ?_
      split at hx
      · next joins =>
        obtain ⟨-, rfl⟩ := joins
        exact (List.mem_append.1 hx).resolve_right fun new => here (List.mem_singleton.1 new).symm
      · exact hx
  · rw [State.QueuedEligible, trigger, TriggerUnit.leave_eq_keep]
    refine ⟨⟨?_, fun k x hx => ?_⟩, skips.keep _⟩
    · rw [TriggerUnit.all_keep]
      exact once.filter _
    · rw [TriggerUnit.queue_keep, List.mem_filter] at hx
      obtain ⟨old, other⟩ := hx
      exact others k x (fun here => by simp [here] at other) old

/-- The shared write queues what it makes eligible. -/
theorem State.EligibleQueued.writeChannel (h : s.EligibleQueued) (ch : ChannelNo) {c : Channel}
    (sound : c.Sound) : (s.writeChannel ch c).EligibleQueued := by
  intro x eligible
  by_cases here : ch = x
  · subst here
    rw [channel_writeChannel_self] at eligible
    obtain ⟨same, trigger⟩ | ⟨-, -, ld, -, trigger⟩ | ⟨now, -⟩ := writeChannel_trigger_cases s ch sound
    · rw [trigger]
      exact h ch (same.trans eligible)
    · rw [trigger]
      cases held : s.trigger.holds ch with
      | true =>
        obtain ⟨k, hk⟩ := (s.trigger.holds_iff ch).1 held
        exact ⟨k, by simpa [TriggerUnit.queue_join, held] using hk⟩
      | false => exact ⟨_, by rw [TriggerUnit.queue_join, if_pos ⟨held, rfl⟩]; simp⟩
    · simp [now] at eligible
  · rw [channel_writeChannel, if_neg here] at eligible
    obtain ⟨k, hk⟩ := h x eligible
    refine ⟨k, ?_⟩
    obtain ⟨-, trigger⟩ | ⟨-, -, ld, -, trigger⟩ | ⟨-, trigger⟩ := writeChannel_trigger_cases s ch sound
    · rwa [trigger]
    · rw [trigger, TriggerUnit.queue_join]
      split
      · next joins => exact List.mem_append_left _ (joins.2 ▸ hk)
      · exact hk
    · rw [trigger, TriggerUnit.leave_eq_keep, TriggerUnit.queue_keep, List.mem_filter]
      exact ⟨hk, by simpa using fun back => here back.symm⟩

end

/-! ### Moves -/

/-- Records, queues and skip counters are sound and, where `full` asks it, every eligible channel is
queued. -/
def State.InStep (full : Bool) (s : State) : Prop :=
  s.RecordsSound ∧ (full = true → s.EligibleQueued)

section
variable {full : Bool} {s t : State}

theorem State.InStep.of_same (h : s.InStep full) (channels : t.channels = s.channels)
    (trigger : t.trigger = s.trigger) : t.InStep full :=
  ⟨recordsSound_of_same channels trigger h.1, fun q => eligibleQueued_of_same channels trigger (h.2 q)⟩

theorem State.InStep.sound (h : s.InStep full) (ch : ChannelNo) : (s.channel ch).Sound := h.1.1 ch

theorem State.InStep.write (h : s.InStep full) (ch : ChannelNo) {c : Channel} (sound : c.Sound)
    (cls : (s.channel ch).eligible = true → c.eligible = true → c.cls = (s.channel ch).cls) :
    (s.writeChannel ch c).InStep full :=
  ⟨State.RecordsSound.writeChannel h.1 ch sound cls, fun q => State.EligibleQueued.writeChannel (h.2 q) ch sound⟩

/-- A record that was not READY was not eligible, so that no class can change in a queue. -/
theorem State.InStep.write_of_not_ready (h : s.InStep full) (ch : ChannelNo) {c : Channel} (sound : c.Sound)
    (was : (s.channel ch).state ≠ .ready) : (s.writeChannel ch c).InStep full :=
  h.write ch sound fun eligible => by simp [Channel.eligible_of_not_ready was] at eligible

theorem State.InStep.write_not_ready (h : s.InStep full) (ch : ChannelNo) {c : Channel} (sound : c.Sound)
    (now : c.state ≠ .ready) : (s.writeChannel ch c).InStep full :=
  h.write ch sound fun _ eligible => by simp [Channel.eligible_of_not_ready now] at eligible

/-- A WAITING line takes its trigger in this case alone (R40). -/
theorem takeTrigger_taken (s : State) (l : LineNo) :
    s.takeTrigger l = s ∨
      ∃ m, (s.line l).mapping = some m ∧ (s.line l).state = .waiting ∧
        (s.channel m.channel).canTake = true ∧
        s.takeTrigger l =
          (s.setLine l { s.line l with state := .pending }).writeChannel m.channel
            { s.channel m.channel with linePending := true } := by
  unfold State.takeTrigger
  dsimp only
  split
  · exact .inl rfl
  · next m mapped =>
    split
    · next takes => exact .inr ⟨m, mapped, takes.1, takes.2.2, rfl⟩
    · exact .inl rfl

theorem State.InStep.takeTrigger (h : s.InStep full) (l : LineNo) : (s.takeTrigger l).InStep full := by
  obtain same | ⟨m, -, -, able, taken⟩ := takeTrigger_taken s l
  · rwa [same]
  · rw [taken]
    have line : (s.setLine l { s.line l with state := .pending }).InStep full := h.of_same rfl rfl
    exact line.write _ ((h.sound _).pending able) fun _ _ => rfl

theorem State.InStep.channelAble (h : s.InStep full) (ch : ChannelNo) : (s.channelAble ch).InStep full := by
  unfold State.channelAble
  split
  · exact h.takeTrigger _
  · exact h

theorem unmap_cases (s : State) (l : LineNo) :
    ((s.line l).mapping = none ∧
      s.unmap l = s.setLine l { s.line l with state := .unmapped, mapping := none }) ∨
      ∃ m, (s.line l).mapping = some m ∧
        s.unmap l =
          (s.setLine l { s.line l with state := .unmapped, mapping := none }).writeChannel m.channel
            { s.channel m.channel with mappedLine := none, linePending := false } := by
  unfold State.unmap
  dsimp only
  split
  · next none => exact .inl ⟨none, rfl⟩
  · next m mapped => exact .inr ⟨m, mapped, rfl⟩

theorem State.InStep.unmap (h : s.InStep full) (l : LineNo) : (s.unmap l).InStep full := by
  have line : (s.setLine l { s.line l with state := .unmapped, mapping := none }).InStep full :=
    h.of_same rfl rfl
  obtain ⟨-, same⟩ | ⟨m, -, unmaps⟩ := unmap_cases s l
  · rwa [same]
  · rw [unmaps]
    exact line.write _ (h.sound _).unmapped fun _ _ => rfl

theorem State.InStep.freeChannel (h : s.InStep full) (ch : ChannelNo) : (s.freeChannel ch).InStep full := by
  rw [freeChannel_eq]
  refine State.InStep.write_not_ready ?_ ch Channel.sound_free (by decide)
  have line : (s.dropLine ch).InStep full := by
    unfold State.dropLine
    split
    · exact h.unmap _
    · exact h
  cases (s.channel ch).owner with
  | none => exact line
  | some p => exact line.of_same rfl rfl

theorem State.InStep.reportChannels (h : s.InStep full) (p : Port) : (s.reportChannels p).InStep full :=
  h.of_same (by simp) (by simp)

/-! ### The end of a unit -/

theorem State.InStep.enterNext (h : s.InStep full) {ch : ChannelNo}
    (busy : (s.channel ch).state = .running ∨ (s.channel ch).state = .stopping) (next : AfterState) :
    (s.enterNext ch next).InStep full := by
  have loaded : (s.channel ch).loaded.isSome := by
    obtain st | st := busy <;> exact (h.sound ch).loaded (by simp [st]) (by simp [st])
  have owner : (s.channel ch).owner.isSome := by
    obtain st | st := busy <;> exact (h.sound ch).owned (by simp [st])
  refine State.InStep.channelAble (h.write_of_not_ready ch ((h.sound ch).settled loaded owner next) ?_) ch
  obtain st | st := busy <;> simp [st]

theorem State.InStep.park (h : s.InStep full) {ch : ChannelNo}
    (busy : (s.channel ch).state = .running ∨ (s.channel ch).state = .stopping) (p : Port)
    (n : ChannelNotice) (next : AfterState) : (s.park ch p n next).InStep full := by
  have loaded : (s.channel ch).loaded.isSome := by
    obtain st | st := busy <;> exact (h.sound ch).loaded (by simp [st]) (by simp [st])
  have owner : (s.channel ch).owner.isSome := by
    obtain st | st := busy <;> exact (h.sound ch).owned (by simp [st])
  have parked : (s.setNoticeUnit p
      { s.noticeUnit p with parking := (s.noticeUnit p).parking ++ [⟨ch, n⟩] }).InStep full :=
    h.of_same rfl rfl
  exact State.InStep.channelAble
    (parked.write_not_ready ch ((h.sound ch).posted loaded owner next) (by simp)) ch

/-- The three ends of a report: no notice, a notice in the queue, or a parked one (R19, R137). -/
theorem concludeUnit_cases (s : State) (ch : ChannelNo) (notice : Option ChannelNotice)
    (next : AfterState) :
    s.concludeUnit ch notice next = s.enterNext ch next ∨
      ∃ p n, (s.channel ch).owner = some p ∧ s.online p = true ∧
        (((s.noticeUnit p).queue.length < 28 ∧
          s.concludeUnit ch notice next =
            (s.setNoticeUnit p ((s.noticeUnit p).enter (.channel n) 1)).enterNext ch next) ∨
          s.concludeUnit ch notice next = s.park ch p n next) := by
  unfold State.concludeUnit
  split
  · next n p owner =>
    split
    · exact .inl rfl
    · next online =>
      refine .inr ⟨p, n, owner, by simpa using online, ?_⟩
      split
      · next room => exact .inl ⟨room, rfl⟩
      · exact .inr rfl
  · exact .inl rfl

theorem State.InStep.concludeUnit (h : s.InStep full) {ch : ChannelNo}
    (busy : (s.channel ch).state = .running ∨ (s.channel ch).state = .stopping)
    (n : Option ChannelNotice) (next : AfterState) : (s.concludeUnit ch n next).InStep full := by
  obtain e | ⟨p, n, -, -, ⟨-, e⟩ | e⟩ := concludeUnit_cases s ch n next
  · rw [e]
    exact h.enterNext busy next
  · have entered : (s.setNoticeUnit p ((s.noticeUnit p).enter (.channel n) 1)).InStep full :=
      h.of_same rfl rfl
    rw [e]
    exact entered.enterNext busy next
  · rw [e]
    exact h.park busy p n next

theorem acknowledge_fireLink_channel (s : State) (ch x : ChannelNo) (prog : Program) (n : Nat) :
    ((s.acknowledge ch).fireLink ch prog n).channel x = s.channel x :=
  channel_of_same (by simp) x

theorem State.InStep.unitEnd (h : s.InStep full) {ch : ChannelNo} (running : (s.channel ch).state = .running)
    (r : Progress) (o : Origin) : (s.unitEnd ch r o).InStep full := by
  unfold State.unitEnd
  dsimp only
  split
  · exact h
  · next ld _ =>
    have written := h.write_of_not_ready ch ((h.sound ch).progressed running (ld.advance r))
      (by simp [running])
    refine State.InStep.concludeUnit (written.of_same (by simp) (by simp)) (.inl ?_) _ _
    rw [acknowledge_fireLink_channel, channel_writeChannel_self]
    exact running

theorem State.InStep.freeStopped (h : s.InStep full) (ch : ChannelNo) : (s.freeStopped ch).InStep full := by
  unfold State.freeStopped
  split
  · exact (h.freeChannel ch).reportChannels _
  · exact h.freeChannel ch

theorem State.InStep.stopUnit (h : s.InStep full) {ch : ChannelNo}
    (stopping : (s.channel ch).state = .stopping) (r : Progress) (c : StopCause) :
    (s.stopUnit ch r c).InStep full := by
  unfold State.stopUnit
  dsimp only
  split
  · exact h.freeStopped ch
  · split
    · exact h
    · next ld _ =>
      have returned : (s.returnLine ch).InStep full := h.of_same (by simp) (by simp)
      have record : (s.returnLine ch).channel ch = s.channel ch := channel_of_same (by simp) ch
      refine State.InStep.concludeUnit (returned.write_of_not_ready ch
        ((h.sound ch).stopped stopping (ld.advance r) c) ?_) (.inr ?_) _ _
      · simp [record, stopping]
      · simp [Channel.stopped, stopping]

/-! ### Queues alone -/

theorem State.InStep.joinQueue (h : s.InStep full) {ch : ChannelNo}
    (eligible : (s.channel ch).eligible = true) : (s.joinQueue ch).InStep full := by
  obtain ⟨⟨records, ⟨once, queued⟩, skips⟩, all⟩ := h
  unfold State.joinQueue
  split
  · next ld loaded =>
    refine ⟨recordsSound_iff.2 ⟨records, ⟨s.trigger.nodup_join once _ ch, fun k x hx => ?_⟩,
      TriggerUnit.Skips.join skips _ ch⟩, fun q x ready => ?_⟩
    · change x ∈ (s.trigger.join ld.program.cls ch).queue k at hx
      rw [TriggerUnit.queue_join] at hx
      split at hx
      · next joins =>
        obtain ⟨-, rfl⟩ := joins
        obtain old | new := List.mem_append.1 hx
        · exact queued _ x old
        · obtain rfl := List.mem_singleton.1 new
          exact ⟨eligible, ld, loaded, rfl⟩
      · exact queued k x hx
    · obtain ⟨k, hk⟩ := all q x ready
      refine ⟨k, ?_⟩
      change x ∈ (s.trigger.join ld.program.cls ch).queue k
      rw [TriggerUnit.queue_join]
      split
      · next joins => exact List.mem_append_left _ (joins.2 ▸ hk)
      · exact hk
  · exact ⟨⟨records, ⟨once, queued⟩, skips⟩, all⟩

theorem State.InStep.dropFreed (h : s.InStep full) : s.dropFreed.InStep full := by
  obtain ⟨⟨records, ⟨once, queued⟩, skips⟩, all⟩ := h
  let f := fun ch => !((s.channel ch).state = .free)
  have trigger : s.dropFreed.trigger = s.trigger.keep f := rfl
  refine ⟨recordsSound_iff.2 ⟨records, ⟨?_, fun k x hx => ?_⟩, TriggerUnit.Skips.keep skips f⟩,
    fun q x ready => ?_⟩
  · rw [trigger, TriggerUnit.all_keep]
    exact once.filter _
  · rw [trigger, TriggerUnit.queue_keep, List.mem_filter] at hx
    exact queued k x hx.1
  · obtain ⟨k, hk⟩ := all q x ready
    refine ⟨k, ?_⟩
    have state : (s.channel x).state = .ready := (Channel.eligible_iff.1 ready).1
    rw [trigger, TriggerUnit.queue_keep, List.mem_filter]
    exact ⟨hk, by simp [f, state]⟩

/-! ### Dispatch (R15, R35) -/

theorem all_perm_of_head {u : TriggerUnit} {k : SchedClass} {ch : ChannelNo} {rest : List ChannelNo}
    (head : u.queue k = ch :: rest) : u.all.Perm (ch :: (u.setQueue k rest).all) := by
  cases k <;> simp only [TriggerUnit.queue] at head <;>
    simp only [TriggerUnit.all, TriggerUnit.setQueue, head]
  · exact .refl _
  · simp
  · exact List.perm_middle

/-- The record and the Trigger Unit after a dispatch, before the engine and the line. -/
theorem State.InStep.dispatched (h : s.InStep full) {k : SchedClass} {ch : ChannelNo}
    {rest : List ChannelNo} (head : s.trigger.queue k = ch :: rest)
    (trigger : t.trigger = (s.trigger.setQueue k rest).countSkips k)
    (channels : t.channels = s.channels.put ch (s.channel ch).dispatched) : t.InStep full := by
  obtain ⟨⟨records, ⟨once, queued⟩, skips⟩, all⟩ := h
  have eligible := (queued k ch (by simp [head])).1
  have record (x : ChannelNo) :
      t.channel x = if ch = x then (s.channel ch).dispatched else s.channel x := by
    rw [← channel_setChannel]
    exact channel_of_same channels x
  have perm := all_perm_of_head head
  rw [perm.nodup_iff, List.nodup_cons] at once
  obtain ⟨out, once⟩ := once
  have queue (j : SchedClass) : t.trigger.queue j = if j = k then rest else s.trigger.queue j := by
    rw [trigger, TriggerUnit.queue_countSkips, TriggerUnit.queue_setQueue]
  refine ⟨recordsSound_iff.2 ⟨fun x => ?_, ⟨?_, fun j x hx => ?_⟩, ?_⟩, fun q x ready => ?_⟩
  · rw [record]
    split
    · exact (records ch).dispatched (Channel.eligible_iff.1 eligible).1
    · exact records x
  · rw [trigger]
    exact once
  · have apart : ch ≠ x := by
      rintro rfl
      refine out ((TriggerUnit.mem_all _).2 ⟨j, ?_⟩)
      rwa [TriggerUnit.queue_setQueue, ← queue]
    rw [record, if_neg apart]
    refine queued j x ?_
    rw [queue] at hx
    split at hx
    · next same => rw [same, head]; exact List.mem_cons_of_mem _ hx
    · exact hx
  · rw [trigger]
    exact TriggerUnit.Skips.countSkips skips k rest
  · rw [record] at ready
    split at ready
    · rw [Channel.eligible_of_not_ready (by simp [Channel.dispatched_state])] at ready
      cases ready
    · next apart =>
      obtain ⟨j, hj⟩ := all q x ready
      refine ⟨j, ?_⟩
      rw [queue]
      split
      · next same =>
        rw [same, head] at hj
        exact (List.mem_cons.1 hj).resolve_left fun back => apart back.symm
      · exact hj

theorem State.InStep.dispatchHead (h : s.InStep full) (e : EngineNo) {k : SchedClass} {ch : ChannelNo}
    {rest : List ChannelNo} (head : s.trigger.queue k = ch :: rest) :
    (s.dispatchHead e k ch rest).InStep full := by
  unfold State.dispatchHead
  dsimp only
  split
  · refine State.InStep.channelAble (h.dispatched head ?_ ?_) ch
    · simp
    · simp
  · exact h

/-! ### Release from parking -/

theorem State.InStep.unparkChannel (h : s.InStep false) (ch : ChannelNo) :
    (s.unparkChannel ch).InStep false := by
  obtain ⟨⟨records, ⟨once, queued⟩, skips⟩, -⟩ := h
  unfold State.unparkChannel
  dsimp only
  split
  · next next after =>
    have posting : (s.channel ch).state = .posting := (records ch).after.1 (by simp [after])
    have settled := (records ch).settled ((records ch).loaded (by simp [posting]) (by simp [posting]))
      ((records ch).owned (by simp [posting])) next
    refine ⟨recordsSound_iff.2 ⟨fun x => ?_, ⟨once, fun k x hx => ?_⟩, skips⟩, by simp⟩
    · rw [channel_setChannel]
      split
      · exact settled
      · exact records x
    · have old := queued k x hx
      have apart : ch ≠ x := by
        rintro rfl
        simp [Channel.eligible, posting] at old
      rw [channel_setChannel, if_neg apart]
      exact old
  · exact ⟨⟨records, ⟨once, queued⟩, skips⟩, by simp⟩

/-! ### Every move -/

theorem takesLoad_not_eligible {c : Channel} (takes : c.takesLoad = true) : c.eligible = false := by
  unfold Channel.takesLoad at takes
  split at takes <;> simp_all [Channel.eligible]

theorem State.InStep.move {rel : Bool} (m : Move rel s t) (full_of : rel = true → full = false)
    (h : s.InStep full) : t.InStep full := by
  cases m with
  | quiet channels trigger => exact h.of_same channels trigger
  | claim p ch _ free => exact h.write_not_ready ch (Channel.sound_claimed p) (by simp)
  | free ch => exact h.freeChannel ch
  | load ch a prog takes =>
    refine h.write ch ((h.sound ch).load takes prog) fun eligible => ?_
    simp [takesLoad_not_eligible takes] at eligible
  | resume ch ld faulted =>
    exact h.write_of_not_ready ch ((h.sound ch).resume faulted) (by simp [faulted])
  | credit ch able room => exact h.write ch ((h.sound ch).credited able room) fun _ _ => rfl
  | abortReady ch ready =>
    obtain e | ⟨l, -, -, -, e⟩ := abortReady_cases s ch
    · rw [e]
      exact h.write_not_ready ch ((h.sound ch).abortReady ready) (by simp)
    · rw [e]
      have line : (s.setLine l { s.line l with state := .waiting }).InStep full := h.of_same rfl rfl
      exact line.write_not_ready ch ((h.sound ch).abortReady ready) (by simp)
  | stop ch running => exact h.write_not_ready ch ((h.sound ch).stopping running) (by simp)
  | abortPosting ch posting =>
    exact h.write_not_ready ch ((h.sound ch).abortPosting posting) (by simp [posting])
  | abortFaulted ch faulted =>
    exact h.write_not_ready ch ((h.sound ch).abortFaulted faulted) (by simp)
  | takeTrigger l => exact h.takeTrigger l
  | unmap l => exact h.unmap l
  | mapLine p l ch _ owned _ noLine =>
    have line : (s.setLine l { s.line l with state := .waiting, mapping := some ⟨ch, p⟩ }).InStep full :=
      h.of_same rfl rfl
    have written := line.write ch ((h.sound ch).mapped owned l) fun _ _ => rfl
    rw [writeChannel_of_eligible_eq] at written
    · exact written
    · rfl
  | line | endAck => exact h.of_same rfl rfl
  | dropFreed => exact h.dropFreed
  | join ch eligible => exact h.joinQueue eligible
  | dispatch e k ch rest _ head => exact h.dispatchHead e head
  | unitEnd ch r o report running =>
    obtain ⟨rest, rfl⟩ := takeReport_eq report
    refine State.InStep.unitEnd ?_ running r o
    exact h.of_same rfl rfl
  | stopUnit ch r c b report _ stopping =>
    obtain ⟨rest, rfl⟩ := takeReport_eq report
    refine State.InStep.stopUnit ?_ stopping r c
    exact h.of_same rfl rfl
  | place | pop | enable | clear => exact h.of_same rfl rfl
  | release p x xs ch may =>
    obtain rfl := full_of may
    refine State.InStep.unparkChannel ?_ ch
    exact h.of_same rfl rfl

theorem reset_inStep (full : Bool) : State.reset.InStep full := by
  refine ⟨recordsSound_iff.2 ⟨fun ch => ?_, ⟨by decide, fun k ch hx => ?_⟩, .settle (t := State.reset.trigger) (by decide) (by decide)⟩,
    fun _ ch ready => ?_⟩
  · have blank : State.reset.channel ch = .free := Table.row_fill _ _
    rw [blank]
    exact Channel.sound_free
  · cases k <;> cases hx
  · have blank : State.reset.channel ch = .free := Table.row_fill _ _
    simp [blank, Channel.free, Channel.eligible] at ready

end

/-! ### Every command -/

theorem exec_recordsSound {c : Instr} {s t : State} (ran : exec c s = .next t) (h : s.RecordsSound) :
    t.RecordsSound :=
  exec_keeps_records (P := State.RecordsSound)
    (fun _ _ channels trigger _ _ => recordsSound_of_same channels trigger) (reset_inStep false).1
    (fun _ _ _ m h => (State.InStep.move m (fun _ => rfl) ⟨h, by simp⟩).1) ran h

theorem Moves.inStep {s t : State} (m : Moves false s t) (h : s.InStep true) : t.InStep true := by
  induction m with
  | refl => exact h
  | tail _ last ih => exact State.InStep.move last (by simp) ih

theorem exec_eligibleQueued {c : Instr} {s t : State} (ran : exec c s = .next t)
    (popless : ∀ p, c ≠ .popNotice p) (records : s.RecordsSound) (h : s.EligibleQueued) :
    t.EligibleQueued := by
  by_cases isReset : c = .powerOnReset
  · subst isReset
    cases ran
    exact eligibleQueued_of_same rfl rfl ((reset_inStep true).2 rfl)
  · cases moves : movesRecords c with
    | false =>
      obtain ⟨channels, trigger, -, -⟩ := exec_records moves ran
      exact eligibleQueued_of_same channels trigger h
    | true =>
      have path := exec_moves moves isReset ran
      have none : releasesParked c = false := by
        cases c with
        | popNotice p => exact absurd rfl (popless p)
        | _ => rfl
      rw [none] at path
      exact (path.inStep ⟨records, fun _ => h⟩).2 rfl

/-- A pop leaves every channel as it was but one that was POSTING (R144). -/
theorem popNoticeAct_channel (p : Port) (a : Table Word 8) {s : State} (h : s.RecordsSound)
    (ch : ChannelNo) :
    (popNoticeAct p a s).2.channel ch = s.channel ch ∨ (s.channel ch).state = .posting := by
  unfold popNoticeAct
  dsimp only
  repeat' split
  · exact .inl rfl
  · exact .inl rfl
  · next x _ =>
    unfold State.unparkChannel
    dsimp only
    split
    · next after =>
      rw [channel_setChannel]
      split
      · next here =>
        subst here
        exact .inr ((h.1 x).after.1 (Option.isSome_iff_exists.2 ⟨_, after⟩))
      · exact .inl rfl
    · exact .inl rfl
  · exact .inl rfl

theorem exec_popNotice_eligible {p : Port} {s t : State} (ran : exec (.popNotice p) s = .next t)
    (records : s.RecordsSound) (h : s.EligibleQueued) (ch : ChannelNo)
    (eligible : (t.channel ch).eligible = true) :
    (∃ k, ch ∈ t.trigger.queue k) ∨ (s.channel ch).state = .posting := by
  have trigger : t.trigger = s.trigger := exec_frame ran .trigger (by simp)
  have kept : t.channel ch = s.channel ch ∨ (s.channel ch).state = .posting := by
    cases ran
    obtain e | ⟨l, rest, -, -, -, e⟩ := ownerTakes_cases .popNotice popNoticeAct p s
    · exact .inl (congrArg (·.channel ch) e)
    · rw [e]
      exact popNoticeAct_channel p l.args (s := s.setHanded p rest)
        (recordsSound_of_same rfl rfl records) ch
  obtain same | posting := kept
  · rw [same] at eligible
    rw [trigger]
    exact .inl (h ch eligible)
  · exact .inr posting

end Sys2Proof.Machine

open Sys2Proof Sys2Proof.Machine

/-- Settles O7: every change of a record is one of the moves, the shared write puts a channel into the
queue of its class or takes it out as its eligibility changes, and only a release from parking writes a
record without it. -/
theorem recordsAndQueuesStaySound : Obligations.RecordsAndQueuesStaySound := by
  refine ⟨fun s t h ran => ?_, fun c s t records queued ran => ?_⟩
  · exact step_keeps (P := State.RecordsSound) (fun _ _ => recordsSound_of_same rfl rfl)
      (fun _ _ => recordsSound_of_same rfl rfl) (fun _ _ _ records ran => exec_recordsSound ran records) ran h
  · refine ⟨fun popless => exec_eligibleQueued ran popless records queued, fun ch eligible => ?_⟩
    by_cases pops : ∃ p, c = .popNotice p
    · obtain ⟨p, rfl⟩ := pops
      exact exec_popNotice_eligible ran records queued ch eligible
    · have popless : ∀ p, c ≠ .popNotice p := fun p is => pops ⟨p, is⟩
      exact .inl (exec_eligibleQueued ran popless records queued ch eligible)

end

section
/-! PROOFS. Notice Units: what a move makes of one, its room, its sequence and its counts (R136–R140, R142,
R146), and parking: a channel stands in its owner's Parking List exactly while it is POSTING (R143). -/

namespace Sys2Proof.Machine

/-! ### One Notice Unit -/

/-- What a happening makes of a Notice Unit; `online` is the session of its port as the block finds it
(R141). -/
inductive NoticeUnit.Change (online : Bool) (u v : NoticeUnit) : Prop where
  /-- Nothing enters or leaves; an entry may leave the Parking List. -/
  | keep (queue : v.queue = u.queue) (deferred : v.deferred = u.deferred)
      (sequence : v.sequence = u.sequence) (parking : ∀ x ∈ v.parking, x ∈ u.parking)
  /-- A notice is parked. -/
  | park (on : online = true) (queue : v.queue = u.queue) (deferred : v.deferred = u.deferred)
      (sequence : v.sequence = u.sequence)
  /-- A channel notice enters the queue. -/
  | enter (on : online = true) (n : Notice) (room : u.queue.length < 28) (is : v = u.enter n 1)
  /-- A system notice is placed. -/
  | place (on : online = true) (n : SystemNotice) (is : v = u.placeSystem n)
  /-- The head leaves, and the unit refills. -/
  | pop (on : online = true) (x : NoticeRecord) (xs : List NoticeRecord) (queue : u.queue = x :: xs)
      (is : v = ({ u with queue := xs }.refill).1)
  /-- A teardown clears the unit. -/
  | clear (is : v = u.cleared)

namespace NoticeUnit

variable {u v : NoticeUnit}

theorem Change.refl (online : Bool) : u.Change online u := .keep rfl rfl rfl fun _ => id

theorem sequenced_append {next : BitVec 16} (xs : List NoticeRecord) (n : Notice) (k : Nat)
    (h : sequenced next xs) : sequenced (next + 1) (xs ++ [⟨n, next, k⟩]) := by
  induction xs with
  | nil => exact ⟨by simp, trivial⟩
  | cons x xs ih =>
    obtain ⟨here, rest⟩ := h
    refine ⟨?_, ih rest⟩
    have length : (xs ++ [(⟨n, next, k⟩ : NoticeRecord)]).length = xs.length + 1 := by simp
    change _ = next + 1 - BitVec.ofNat 16 ((xs ++ [(⟨n, next, k⟩ : NoticeRecord)]).length + 1)
    rw [here, length]
    bv_omega

/-- An entry keeps the unit sound when the queue has a place for it and, with deferred entries left,
exactly one. -/
theorem sound_enter {n : Notice} {k : Nat} (room : u.queue.length < 32)
    (inSequence : sequenced u.sequence u.queue) (counts : ∀ x ∈ u.queue, 1 ≤ x.repeats ∧ x.repeats ≤ 255)
    (count : 1 ≤ k ∧ k ≤ 255) (behind : u.deferred ≠ [] → u.queue.length = 31)
    (apart : u.deferred.Pairwise fun x y => x.notice.sameKey y.notice = false)
    (deferredCounts : ∀ x ∈ u.deferred, 1 ≤ x.repeats ∧ x.repeats ≤ 255) : (u.enter n k).Sound where
  room := by simpa [enter] using room
  inSequence := sequenced_append _ n k inSequence
  counts x hx := by
    obtain old | new := List.mem_append.1 hx
    · exact counts x old
    · rw [List.mem_singleton.1 new]
      exact count
  behindFull waits := by simp [enter, behind waits]
  apart := apart
  deferredCounts := deferredCounts

theorem Sound.of_same (h : u.Sound) (queue : v.queue = u.queue) (deferred : v.deferred = u.deferred)
    (sequence : v.sequence = u.sequence) : v.Sound := by
  obtain ⟨room, inSequence, counts, behindFull, apart, deferredCounts⟩ := h
  exact ⟨by rwa [queue], by rwa [queue, sequence], by rwa [queue], by rwa [queue, deferred],
    by rwa [deferred], by rwa [deferred]⟩

/-- Deferred entries stand behind a full queue alone. -/
theorem Sound.deferred_of_room (h : u.Sound) (room : u.queue.length < 32) : u.deferred = [] := by
  by_contra waits
  have := h.behindFull waits
  omega

theorem Sound.enter (h : u.Sound) (room : u.queue.length < 32) (n : Notice) : (u.enter n 1).Sound :=
  sound_enter room h.inSequence h.counts (by decide)
    (fun waits => absurd (h.deferred_of_room room) waits) h.apart h.deferredCounts

/-! ### Merging (R139) -/

/-- A merge changes one entry, to the notice itself under the key it merges with. -/
theorem mergeDeferred_eq_some {n : SystemNotice} {ds es : List Deferred}
    (h : mergeDeferred n ds = some es) :
    ∃ x z y, ds = x ++ z :: y ∧ es = x ++ ⟨n, min 255 (z.repeats + 1)⟩ :: y ∧
      z.notice.sameKey n = true := by
  induction ds generalizing es with
  | nil => cases h
  | cons v vs ih =>
    unfold mergeDeferred at h
    split at h
    · next key =>
      cases h
      exact ⟨[], v, vs, rfl, rfl, key⟩
    · obtain ⟨fs, merged, rfl⟩ := Option.map_eq_some_iff.1 h
      obtain ⟨x, z, y, rfl, rfl, key⟩ := ih merged
      exact ⟨v :: x, z, y, rfl, rfl, key⟩

theorem mergeDeferred_eq_none {n : SystemNotice} {ds : List Deferred} (h : mergeDeferred n ds = none) :
    ∀ v ∈ ds, v.notice.sameKey n = false := by
  induction ds with
  | nil => exact fun _ => nofun
  | cons v vs ih =>
    unfold mergeDeferred at h
    split at h
    · cases h
    · next other =>
      exact List.forall_mem_cons.2 ⟨by simpa using other, ih (Option.map_eq_none_iff.1 h)⟩

/-- Notices of one key are told apart from the same others. -/
theorem sameKey_congr {x y : SystemNotice} (key : x.sameKey y = true) (z : SystemNotice) :
    x.sameKey z = y.sameKey z ∧ z.sameKey x = z.sameKey y := by
  obtain ⟨kind, subject⟩ := (SystemNotice.sameKey_iff x y).1 key
  constructor <;> rw [Bool.eq_iff_iff, SystemNotice.sameKey_iff, SystemNotice.sameKey_iff, kind, subject]

theorem sameKey_comm (x y : SystemNotice) : x.sameKey y = y.sameKey x := by
  rw [Bool.eq_iff_iff, SystemNotice.sameKey_iff, SystemNotice.sameKey_iff]
  exact ⟨fun h => ⟨h.1.symm, h.2.symm⟩, fun h => ⟨h.1.symm, h.2.symm⟩⟩

theorem Sound.merged (h : u.Sound) {n : SystemNotice} {ds : List Deferred}
    (merged : mergeDeferred n u.deferred = some ds) : { u with deferred := ds }.Sound := by
  obtain ⟨x, z, y, was, rfl, key⟩ := mergeDeferred_eq_some merged
  have apart := h.apart
  have counted := h.deferredCounts
  have congr := sameKey_congr key
  rw [was] at apart counted
  refine ⟨h.room, h.inSequence, h.counts, fun _ => h.behindFull (by simp [was]), ?_, fun d hd => ?_⟩
  · simp only [List.pairwise_append, List.pairwise_cons, List.forall_mem_cons] at apart ⊢
    obtain ⟨before, ⟨here, after⟩, across⟩ := apart
    exact ⟨before, ⟨fun d hd => (congr _).1 ▸ here d hd, after⟩,
      fun d hd => ⟨(congr _).2 ▸ (across d hd).1, (across d hd).2⟩⟩
  · have replaced := counted z (by simp)
    obtain old | rfl | old : d ∈ x ∨ d = (⟨n, min 255 (z.repeats + 1)⟩ : Deferred) ∨ d ∈ y := by
      simpa using hd
    · exact counted d (by simp [old])
    · exact ⟨by simp, by simp⟩
    · exact counted d (by simp [old])

theorem Sound.deferred (h : u.Sound) (full : u.queue.length = 32) {n : SystemNotice}
    (new : mergeDeferred n u.deferred = none) :
    { u with deferred := u.deferred ++ [(⟨n, 1⟩ : Deferred)] }.Sound := by
  refine ⟨h.room, h.inSequence, h.counts, fun _ => full, ?_, fun d hd => ?_⟩
  · refine List.pairwise_append.2 ⟨h.apart, by simp, fun d hd e he => ?_⟩
    rw [List.mem_singleton.1 he]
    exact mergeDeferred_eq_none new d hd
  · obtain old | new := List.mem_append.1 hd
    · exact h.deferredCounts d old
    · rw [List.mem_singleton.1 new]
      exact ⟨by simp, by simp⟩

theorem Sound.placeSystem (h : u.Sound) (n : SystemNotice) : (u.placeSystem n).Sound := by
  by_cases room : u.queue.length < 32
  · rw [placeSystem_of_room room]
    exact h.enter room _
  · rw [placeSystem_of_full (Nat.not_lt.1 room)]
    have full : u.queue.length = 32 := Nat.le_antisymm h.room (Nat.not_lt.1 room)
    cases merged : mergeDeferred n u.deferred with
    | none => exact h.deferred full merged
    | some ds => exact h.merged merged

/-! ### Pops and clearing (R142, R146) -/

theorem Sound.popped (h : u.Sound) {x : NoticeRecord} {xs : List NoticeRecord} (queue : u.queue = x :: xs) :
    ({ u with queue := xs }.refill).1.Sound := by
  obtain ⟨room, inSequence, counts, behindFull, apart, deferredCounts⟩ := h
  rw [queue] at room inSequence counts behindFull
  rw [List.length_cons] at room
  have counts' : ∀ y ∈ xs, 1 ≤ y.repeats ∧ y.repeats ≤ 255 := fun y hy => counts y (by simp [hy])
  by_cases deferred : u.deferred = []
  · have kept : { u with queue := xs }.Sound :=
      ⟨by simp; omega, inSequence.2, counts', by simp [deferred], apart, deferredCounts⟩
    by_cases stays : u.parking = [] ∨ 28 ≤ xs.length
    · rw [refill_of_nothing (u := { u with queue := xs }) deferred stays]
      exact kept
    · obtain ⟨parked, place⟩ := not_or.1 stays
      obtain ⟨y, ys, parking⟩ := List.exists_cons_of_ne_nil parked
      rw [refill_of_parked (u := { u with queue := xs }) deferred parking (Nat.not_le.1 place)]
      refine Sound.enter (u := { u with queue := xs, parking := ys }) (kept.of_same rfl rfl rfl) ?_ _
      exact Nat.lt_of_lt_of_le (Nat.not_le.1 place) (by decide)
  · have full := behindFull deferred
    rw [List.length_cons] at full
    obtain ⟨d, ds, deferred⟩ := List.exists_cons_of_ne_nil deferred
    rw [refill_of_deferred (u := { u with queue := xs }) deferred]
    rw [deferred] at apart deferredCounts
    exact sound_enter (by simp; omega) inSequence.2 counts' (deferredCounts d (by simp))
      (fun _ => by simp; omega) (List.pairwise_cons.1 apart).2 fun y hy => deferredCounts y (by simp [hy])

theorem sound_cleared : u.cleared.Sound where
  room := by simp [cleared]
  inSequence := trivial
  counts _ h := by cases h
  behindFull h := absurd rfl h
  apart := .nil
  deferredCounts _ h := by cases h

theorem Change.sound {online : Bool} (c : u.Change online v) (h : u.Sound) : v.Sound := by
  cases c with
  | keep queue deferred sequence | park _ queue deferred sequence =>
    exact h.of_same queue deferred sequence
  | enter _ n room is => exact is ▸ h.enter (Nat.lt_of_lt_of_le room (by decide)) n
  | place _ n is => exact is ▸ h.placeSystem n
  | pop _ x xs queue is => exact is ▸ h.popped queue
  | clear is => exact is ▸ sound_cleared

end NoticeUnit

/-! ### What a move makes of each Notice Unit -/

section
variable {s t : State}

theorem change_of_notices (h : t.notices = s.notices) (online : Bool) (p : Port) :
    (s.noticeUnit p).Change online (t.noticeUnit p) := by
  rw [noticeUnit_of_same h]
  exact .refl online

theorem change_setNoticeUnit {p : Port} {u : NoticeUnit}
    (c : (s.noticeUnit p).Change (s.online p) u) (h : t.notices = s.notices.set p u) (q : Port) :
    (s.noticeUnit q).Change (s.online q) (t.noticeUnit q) := by
  rw [noticeUnit_of_same (s := s.setNoticeUnit p u) h, noticeUnit_setNoticeUnit]
  split
  · next here => exact here ▸ c
  · exact .refl _

theorem change_freeChannel (s : State) (ch : ChannelNo) (p : Port) (online : Bool) :
    (s.noticeUnit p).Change online ((s.freeChannel ch).noticeUnit p) := by
  rw [freeChannel_noticeUnit]
  split
  · exact .keep rfl rfl rfl fun x hx => List.mem_of_mem_filter hx
  · exact .refl _

theorem change_concludeUnit (s : State) (ch : ChannelNo) (notice : Option ChannelNotice)
    (next : AfterState) (p : Port) :
    (s.noticeUnit p).Change (s.online p) ((s.concludeUnit ch notice next).noticeUnit p) := by
  obtain e | ⟨q, n, -, online, ⟨room, e⟩ | e⟩ := concludeUnit_cases s ch notice next
  · rw [e]
    exact change_of_notices (by simp [State.enterNext]) _ p
  · rw [e]
    exact change_setNoticeUnit (.enter online (.channel n) room rfl) (by simp [State.enterNext]) p
  · rw [e]
    exact change_setNoticeUnit (p := q)
      (u := { s.noticeUnit q with parking := (s.noticeUnit q).parking ++ [⟨ch, n⟩] })
      (.park online rfl rfl rfl) (by simp [State.park]) p

theorem online_of_ports (h : t.ports = s.ports) (p : Port) : t.online p = s.online p := by
  unfold State.online
  rw [port_of_same h]

theorem change_after {u : State} {p : Port} {v : NoticeUnit} (notices : u.notices = s.notices)
    (ports : u.ports = s.ports) (c : (u.noticeUnit p).Change (u.online p) v) :
    (s.noticeUnit p).Change (s.online p) v := by
  rwa [noticeUnit_of_same notices, online_of_ports ports] at c

theorem change_unitEnd (s : State) (ch : ChannelNo) (r : Progress) (o : Origin) (p : Port) :
    (s.noticeUnit p).Change (s.online p) ((s.unitEnd ch r o).noticeUnit p) := by
  unfold State.unitEnd
  dsimp only
  split
  · exact .refl _
  · exact change_after (by simp) (by simp) (change_concludeUnit _ ch _ _ p)

theorem change_stopUnit (s : State) (ch : ChannelNo) (r : Progress) (c : StopCause) (p : Port) :
    (s.noticeUnit p).Change (s.online p) ((s.stopUnit ch r c).noticeUnit p) := by
  unfold State.stopUnit
  dsimp only
  split
  · unfold State.freeStopped
    split
    · next q _ =>
      rw [noticeUnit_of_same (s := s.freeChannel ch) (t := (s.freeChannel ch).reportChannels q) (by simp)]
      exact change_freeChannel s ch p _
    · exact change_freeChannel s ch p _
  · split
    · exact .refl _
    · exact change_after (by simp) (by simp) (change_concludeUnit _ ch _ _ p)

theorem Move.noticeUnit {rel : Bool} (m : Move rel s t) (p : Port) :
    (s.noticeUnit p).Change (s.online p) (t.noticeUnit p) := by
  cases m with
  | quiet _ _ _ notices => exact change_of_notices notices _ p
  | free ch => exact change_freeChannel s ch p _
  | unitEnd ch r o report =>
    obtain ⟨rest, e⟩ := takeReport_eq report
    exact change_after (by rw [e]; rfl) (by rw [e]; rfl) (change_unitEnd _ ch r o p)
  | stopUnit ch r c b report =>
    obtain ⟨rest, e⟩ := takeReport_eq report
    exact change_after (by rw [e]; rfl) (by rw [e]; rfl) (change_stopUnit _ ch r c p)
  | place q n online => exact change_setNoticeUnit (.place online n rfl) rfl p
  | pop q x xs online queue => exact change_setNoticeUnit (.pop online x xs queue rfl) rfl p
  | release q x xs ch _ online queue =>
    exact change_setNoticeUnit (.pop online x xs queue rfl) (by simp) p
  | enable q b =>
    exact change_setNoticeUnit (u := { s.noticeUnit q with enable := b })
      (.keep rfl rfl rfl fun _ => id) rfl p
  | clear q => exact change_setNoticeUnit (.clear rfl) rfl p
  | _ => exact change_of_notices (by simp) _ p

theorem noticesSound_of_same (h : t.notices = s.notices) (sound : s.NoticesSound) : t.NoticesSound :=
  fun p => by
    rw [noticeUnit_of_same h]
    exact sound p

theorem exec_noticesSound {c : Instr} (ran : exec c s = .next t) (h : s.NoticesSound) :
    t.NoticesSound := by
  refine exec_keeps_records (P := State.NoticesSound) (fun _ _ _ _ _ => noticesSound_of_same)
    (fun p => ?_) (fun _ _ _ m sound p => (m.noticeUnit p).sound (sound p)) ran h
  have blank : State.reset.noticeUnit p = NoticeUnit.reset.cleared := by cases p <;> rfl
  rw [blank]
  exact NoticeUnit.sound_cleared

end

/-! ### Parking (R143) -/

/-- The channels in the Parking List. -/
def NoticeUnit.parked (u : NoticeUnit) : List ChannelNo := u.parking.map (·.channel)

/-- The port in whose Parking List a channel is to stand. -/
def Channel.parkedBy (c : Channel) : Option Port := if c.state = .posting then c.owner else none

theorem Channel.parkedBy_of_not_posting {c : Channel} (h : c.state ≠ .posting) : c.parkedBy = none :=
  if_neg h

theorem Channel.parkedBy_eq_some {c : Channel} {p : Port} :
    c.parkedBy = some p ↔ c.state = .posting ∧ c.owner = some p := by
  simp [Channel.parkedBy]

theorem parkingSound_iff {s : State} :
    s.ParkingSound ↔
      ∀ p, (s.noticeUnit p).parked.Nodup ∧
        ∀ ch, ch ∈ (s.noticeUnit p).parked ↔ (s.channel ch).parkedBy = some p := by
  simp only [Channel.parkedBy_eq_some]
  exact ⟨fun h p => ⟨h.once p, h.posting p⟩, fun h => ⟨fun p => (h p).1, fun p => (h p).2⟩⟩

/-- Parking Lists and the channels to stand there are as before. -/
structure State.SameParked (s t : State) : Prop where
  lists : ∀ p, (t.noticeUnit p).parking = (s.noticeUnit p).parking
  channels : ∀ ch, (t.channel ch).parkedBy = (s.channel ch).parkedBy

section
variable {s t u : State}

theorem State.SameParked.refl (s : State) : s.SameParked s := ⟨fun _ => rfl, fun _ => rfl⟩

theorem State.SameParked.trans (h : s.SameParked t) (k : t.SameParked u) : s.SameParked u :=
  ⟨fun p => (k.lists p).trans (h.lists p), fun ch => (k.channels ch).trans (h.channels ch)⟩

theorem State.SameParked.sound (same : s.SameParked t) (h : s.ParkingSound) : t.ParkingSound := by
  refine parkingSound_iff.2 fun p => ?_
  have list : (t.noticeUnit p).parked = (s.noticeUnit p).parked :=
    congrArg (List.map Parked.channel) (same.lists p)
  simpa only [list, same.channels] using parkingSound_iff.1 h p

theorem sameParked_of (channels : t.channels = s.channels)
    (lists : ∀ p, (t.noticeUnit p).parking = (s.noticeUnit p).parking) : s.SameParked t :=
  ⟨lists, fun ch => congrArg Channel.parkedBy (channel_of_same channels ch)⟩

theorem sameParked_quiet (channels : t.channels = s.channels) (notices : t.notices = s.notices) :
    s.SameParked t :=
  sameParked_of channels fun p => congrArg _ (noticeUnit_of_same notices p)

@[simp] theorem channel_setNoticeUnit (s : State) (p : Port) (v : NoticeUnit) (x : ChannelNo) :
    (s.setNoticeUnit p v).channel x = s.channel x := rfl

theorem sameParked_setNoticeUnit (s : State) {p : Port} {v : NoticeUnit}
    (list : v.parking = (s.noticeUnit p).parking) : s.SameParked (s.setNoticeUnit p v) := by
  refine sameParked_of rfl fun q => ?_
  rw [noticeUnit_setNoticeUnit]
  split
  · next here => rw [list, here]
  · rfl

theorem sameParked_writeChannel (s : State) {ch : ChannelNo} {c : Channel}
    (same : c.parkedBy = (s.channel ch).parkedBy) : s.SameParked (s.writeChannel ch c) := by
  refine ⟨fun p => congrArg _ (noticeUnit_of_same (by simp) p), fun x => ?_⟩
  rw [channel_writeChannel]
  split
  · next here => rw [← here, same]
  · rfl

theorem sameParked_write_of_not_posting (s : State) {ch : ChannelNo} {c : Channel}
    (was : (s.channel ch).state ≠ .posting) (now : c.state ≠ .posting) :
    s.SameParked (s.writeChannel ch c) :=
  sameParked_writeChannel s (by
    rw [Channel.parkedBy_of_not_posting was, Channel.parkedBy_of_not_posting now])

theorem sameParked_takeTrigger (s : State) (l : LineNo) : s.SameParked (s.takeTrigger l) :=
  ⟨fun p => congrArg _ (noticeUnit_of_same (by simp) p),
    takeTrigger_keeps s Channel.parkedBy (fun _ _ => rfl) l⟩

theorem sameParked_channelAble (s : State) (ch : ChannelNo) : s.SameParked (s.channelAble ch) :=
  ⟨fun p => congrArg _ (noticeUnit_of_same (by simp) p),
    channelAble_keeps s Channel.parkedBy (fun _ _ => rfl) ch⟩

theorem sameParked_unmap (s : State) (l : LineNo) : s.SameParked (s.unmap l) :=
  ⟨fun p => congrArg _ (noticeUnit_of_same (by simp) p),
    unmap_keeps s Channel.parkedBy (fun _ _ _ => rfl) l⟩

/-- A channel that becomes FREE leaves the Parking List where it stood. -/
theorem parkingSound_freeChannel (h : s.ParkingSound) (ch : ChannelNo) :
    (s.freeChannel ch).ParkingSound := by
  refine parkingSound_iff.2 fun p => ?_
  obtain ⟨once, members⟩ := parkingSound_iff.1 h p
  have parkedBy (x : ChannelNo) : ((s.freeChannel ch).channel x).parkedBy =
      if ch = x then none else (s.channel x).parkedBy := by
    split
    · next here =>
      subst here
      rw [freeChannel_channel_self]
      rfl
    · next other => exact freeChannel_keeps s Channel.parkedBy (fun _ _ _ => rfl) other
  have list : ((s.freeChannel ch).noticeUnit p).parked = (s.noticeUnit p).parked.filter (· != ch) := by
    rw [freeChannel_noticeUnit]
    split
    · simp only [NoticeUnit.parked, NoticeUnit.unpark, List.filter_map]
      rfl
    · next notOwner =>
      refine (List.filter_eq_self.2 fun x hx => ?_).symm
      have owner := (Channel.parkedBy_eq_some.1 ((members x).1 hx)).2
      simpa using fun here : x = ch => notOwner (here ▸ owner)
  rw [list]
  refine ⟨once.filter _, fun x => ?_⟩
  rw [List.mem_filter, members, parkedBy]
  by_cases here : ch = x
  · simp [here]
  · simp [here, Ne.symm here]

/-! ### The end of a unit -/

theorem sameParked_enterNext (s : State) {ch : ChannelNo} (was : (s.channel ch).state ≠ .posting)
    (next : AfterState) : s.SameParked (s.enterNext ch next) :=
  (sameParked_write_of_not_posting s was (by cases next <;> simp [Channel.settled])).trans
    (sameParked_channelAble _ ch)

/-- A channel that is parked joins its owner's list as it becomes POSTING. -/
theorem parkingSound_park (h : s.ParkingSound) {ch : ChannelNo} {p : Port}
    (was : (s.channel ch).state ≠ .posting) (owner : (s.channel ch).owner = some p)
    (n : ChannelNotice) (next : AfterState) : (s.park ch p n next).ParkingSound := by
  refine (sameParked_channelAble _ ch).sound (parkingSound_iff.2 fun q => ?_)
  obtain ⟨once, members⟩ := parkingSound_iff.1 h q
  rw [noticeUnit_of_same (s := s.setNoticeUnit p
    { s.noticeUnit p with parking := (s.noticeUnit p).parking ++ [⟨ch, n⟩] }) (by simp),
    noticeUnit_setNoticeUnit]
  have out : ch ∉ (s.noticeUnit q).parked := by
    rw [members, Channel.parkedBy_of_not_posting was]
    simp
  have record (x : ChannelNo) : (s.channel x).parkedBy = some q ↔
      ch ≠ x ∧ (s.channel x).parkedBy = some q := by
    refine ⟨fun parked => ⟨?_, parked⟩, And.right⟩
    rintro rfl
    exact out ((members _).2 parked)
  by_cases here : p = q
  · subst here
    rw [if_pos rfl]
    have list : NoticeUnit.parked
        { s.noticeUnit p with parking := (s.noticeUnit p).parking ++ [⟨ch, n⟩] } =
          (s.noticeUnit p).parked ++ [ch] := by
      simp [NoticeUnit.parked]
    rw [list]
    refine ⟨List.nodup_append.2 ⟨once, by simp, fun x hx y hy => ?_⟩, fun x => ?_⟩
    · rw [List.mem_singleton.1 hy]
      rintro rfl
      exact out hx
    · rw [List.mem_append, members, List.mem_singleton, channel_writeChannel]
      split
      · next same =>
        subst same
        simpa [Channel.parkedBy_eq_some] using owner
      · next other => simp [Ne.symm other]
  · rw [if_neg here]
    refine ⟨once, fun x => ?_⟩
    rw [members, channel_writeChannel]
    split
    · next same =>
      subst same
      rw [Channel.parkedBy_of_not_posting was]
      have other : (s.channel ch).owner ≠ some q := by simpa [owner] using here
      simpa [Channel.parkedBy] using other
    · rfl

theorem parkingSound_concludeUnit (h : s.ParkingSound) {ch : ChannelNo}
    (was : (s.channel ch).state ≠ .posting) (notice : Option ChannelNotice) (next : AfterState) :
    (s.concludeUnit ch notice next).ParkingSound := by
  obtain e | ⟨p, n, owner, -, ⟨-, e⟩ | e⟩ := concludeUnit_cases s ch notice next
  · rw [e]
    exact (sameParked_enterNext s was next).sound h
  · rw [e]
    have entered := (sameParked_setNoticeUnit s (p := p)
      (v := (s.noticeUnit p).enter (.channel n) 1) rfl).sound h
    refine State.SameParked.sound (sameParked_enterNext _ ?_ next) entered
    exact was
  · rw [e]
    exact parkingSound_park h was owner n next

theorem parkingSound_unitEnd (h : s.ParkingSound) {ch : ChannelNo}
    (running : (s.channel ch).state = .running) (r : Progress) (o : Origin) :
    (s.unitEnd ch r o).ParkingSound := by
  unfold State.unitEnd
  dsimp only
  split
  · exact h
  · next ld _ =>
    have written : s.SameParked
        (s.writeChannel ch { s.channel ch with loaded := some (ld.advance r) }) :=
      sameParked_write_of_not_posting s (by simp [running]) (by simp [running])
    refine parkingSound_concludeUnit (State.SameParked.sound (s := s) ?_ h) ?_ _ _
    · exact written.trans (sameParked_quiet (by simp) (by simp))
    rw [acknowledge_fireLink_channel, channel_writeChannel_self]
    simp [running]

theorem parkingSound_stopUnit (h : s.ParkingSound) {ch : ChannelNo}
    (stopping : (s.channel ch).state = .stopping) (r : Progress) (c : StopCause) :
    (s.stopUnit ch r c).ParkingSound := by
  unfold State.stopUnit
  dsimp only
  split
  · unfold State.freeStopped
    split
    · exact State.SameParked.sound (s := s.freeChannel ch) (sameParked_quiet (by simp) (by simp))
        (parkingSound_freeChannel h ch)
    · exact parkingSound_freeChannel h ch
  · split
    · exact h
    · next ld _ =>
      have record : (s.returnLine ch).channel ch = s.channel ch := channel_of_same (by simp) ch
      have returned := sameParked_quiet (s := s) (t := s.returnLine ch) (by simp) (by simp)
      have written := returned.trans (sameParked_write_of_not_posting (ch := ch)
        (c := (s.channel ch).stopped (ld.advance r) c) _ (by simp [record, stopping])
        (by simp [Channel.stopped, stopping]))
      refine parkingSound_concludeUnit (written.sound h) ?_ _ _
      simp [Channel.stopped, stopping]

/-! ### Release from parking (R144) -/

theorem refill_eq_none {u : NoticeUnit} (h : u.refill.2 = none) : u.refill.1.parking = u.parking := by
  revert h
  unfold NoticeUnit.refill
  split
  · exact fun _ => rfl
  · split
    · split
      · exact nofun
      · exact fun _ => rfl
    · exact fun _ => rfl

theorem refill_eq_some {u : NoticeUnit} {ch : ChannelNo} (h : u.refill.2 = some ch) :
    u.parked = ch :: u.refill.1.parked := by
  revert h
  unfold NoticeUnit.refill
  split
  · exact nofun
  · split
    · next parking =>
      split
      · rintro ⟨⟩
        simp [NoticeUnit.parked, parking, NoticeUnit.enter]
      · exact nofun
    · exact nofun

theorem parkingSound_release (records : s.RecordsSound) (h : s.ParkingSound) {p : Port} {ch : ChannelNo}
    {v : NoticeUnit} (released : (s.noticeUnit p).parked = ch :: v.parked) :
    ((s.setNoticeUnit p v).unparkChannel ch).ParkingSound := by
  have parkedBy : (s.channel ch).parkedBy = some p :=
    ((parkingSound_iff.1 h p).2 ch).1 (by simp [released])
  have posting := (Channel.parkedBy_eq_some.1 parkedBy).1
  obtain ⟨next, after⟩ := Option.isSome_iff_exists.1 ((records.1 ch).after.2 posting)
  rw [unparkChannel_of_afterState (s := s.setNoticeUnit p v) after]
  refine parkingSound_iff.2 fun q => ?_
  obtain ⟨once, members⟩ := parkingSound_iff.1 h q
  rw [noticeUnit_of_same (s := s.setNoticeUnit p v) (t := State.setChannel _ ch _) rfl,
    noticeUnit_setNoticeUnit]
  have settled : ((s.channel ch).settled next).parkedBy = none :=
    Channel.parkedBy_of_not_posting (by cases next <;> simp [Channel.settled])
  have record (x : ChannelNo) : (((s.setNoticeUnit p v).setChannel ch
      (((s.setNoticeUnit p v).channel ch).settled next)).channel x).parkedBy =
        if ch = x then none else (s.channel x).parkedBy := by
    rw [channel_setChannel]
    split
    · exact settled
    · rfl
  simp only [record]
  by_cases here : p = q
  · subst here
    rw [if_pos rfl]
    rw [released] at once members
    obtain ⟨out, once⟩ := List.nodup_cons.1 once
    refine ⟨once, fun x => ?_⟩
    split
    · next same => simpa [← same] using out
    · next other =>
      rw [← members, List.mem_cons, or_iff_right fun back => other back.symm]
  · rw [if_neg here]
    refine ⟨once, fun x => ?_⟩
    rw [members]
    split
    · next same => simpa [← same, parkedBy] using here
    · rfl

/-! ### Every move -/

theorem Move.parkingSound {rel : Bool} (m : Move rel s t) (records : s.RecordsSound)
    (h : s.ParkingSound) : t.ParkingSound := by
  cases m with
  | quiet channels _ _ notices =>
    exact (sameParked_quiet channels notices).sound h
  | claim p ch _ free =>
    exact (sameParked_write_of_not_posting s (by simp [free]) (by simp)).sound h
  | free ch => exact parkingSound_freeChannel h ch
  | load ch a prog takes =>
    refine (sameParked_write_of_not_posting s ?_ (by simp [Channel.withProgram])).sound h
    intro posting
    simp [Channel.takesLoad, posting] at takes
  | resume ch ld faulted =>
    exact (sameParked_write_of_not_posting s (by simp [faulted]) (by simp)).sound h
  | credit ch =>
    exact (sameParked_writeChannel s (c := { s.channel ch with credit := (s.channel ch).credit + 1 })
      rfl).sound h
  | abortReady ch ready =>
    obtain e | ⟨l, -, -, -, e⟩ := abortReady_cases s ch
    · rw [e]
      exact (sameParked_write_of_not_posting s (by simp [ready]) (by simp)).sound h
    · rw [e]
      have line := State.SameParked.sound (s := s) (t := s.setLine l { s.line l with state := .waiting })
        (sameParked_quiet rfl rfl) h
      refine (sameParked_write_of_not_posting _ ?_ (by simp)).sound line
      change (s.channel ch).state ≠ .posting
      simp [ready]
  | stop ch running => exact (sameParked_write_of_not_posting s (by simp [running]) (by simp)).sound h
  | abortPosting ch =>
    exact (sameParked_writeChannel s
      (c := { s.channel ch with afterState := some .idle, credit := 0 }) rfl).sound h
  | abortFaulted ch faulted =>
    exact (sameParked_write_of_not_posting s (by simp [faulted]) (by simp)).sound h
  | takeTrigger l => exact (sameParked_takeTrigger s l).sound h
  | unmap l => exact (sameParked_unmap s l).sound h
  | mapLine p l ch =>
    refine State.SameParked.sound (s := s) ⟨fun _ => rfl, fun x => ?_⟩ h
    rw [channel_setChannel]
    split
    · next here => rw [← here]; rfl
    · rfl
  | line | endAck | dropFreed => exact State.SameParked.sound (s := s) (sameParked_quiet rfl rfl) h
  | join ch =>
    exact State.SameParked.sound (s := s) (sameParked_quiet (by simp) (by simp)) h
  | dispatch e k ch rest _ head =>
    have ready : (s.channel ch).state = .ready :=
      (Channel.eligible_iff.1 (records.2.1.2 k ch (by simp [head])).1).1
    unfold State.dispatchHead
    dsimp only
    split
    · refine (State.SameParked.trans ?_ (sameParked_channelAble _ ch)).sound h
      refine ⟨fun p => congrArg _ (noticeUnit_of_same (by simp) p), fun x => ?_⟩
      rw [channel_of_same (s := s.setChannel ch (s.channel ch).dispatched) (by simp), channel_setChannel]
      split
      · next here =>
        subst here
        rw [Channel.parkedBy_of_not_posting (by simp [Channel.dispatched_state]),
          Channel.parkedBy_of_not_posting (by simp [ready])]
      · rfl
    · exact h
  | unitEnd ch r o report running =>
    obtain ⟨rest, rfl⟩ := takeReport_eq report
    refine parkingSound_unitEnd ?_ running r o
    exact State.SameParked.sound (s := s) (sameParked_quiet rfl rfl) h
  | stopUnit ch r c b report _ stopping =>
    obtain ⟨rest, rfl⟩ := takeReport_eq report
    refine parkingSound_stopUnit ?_ stopping r c
    exact State.SameParked.sound (s := s) (sameParked_quiet rfl rfl) h
  | place p n =>
    refine (sameParked_setNoticeUnit s ?_).sound h
    unfold NoticeUnit.placeSystem
    split
    · rfl
    · split <;> rfl
  | pop p x xs _ _ stays =>
    have list := refill_eq_none (u := { s.noticeUnit p with queue := xs }) stays
    exact (sameParked_setNoticeUnit s list).sound h
  | release p x xs ch _ _ _ releases => exact parkingSound_release records h (refill_eq_some releases)
  | enable p b =>
    exact (sameParked_setNoticeUnit s (v := { s.noticeUnit p with enable := b }) rfl).sound h
  | clear p => exact (sameParked_setNoticeUnit s (v := (s.noticeUnit p).cleared) rfl).sound h

theorem reset_parkingSound : State.reset.ParkingSound := by
  refine parkingSound_iff.2 fun p => ?_
  have noneParked : (State.reset.noticeUnit p).parked = [] := by cases p <;> rfl
  have blank (ch : ChannelNo) : State.reset.channel ch = .free := Table.row_fill _ _
  rw [noneParked]
  exact ⟨.nil, fun ch => by simp [blank, Channel.parkedBy, Channel.free]⟩

theorem exec_parkingSound {c : Instr} (ran : exec c s = .next t)
    (h : s.RecordsSound ∧ s.ParkingSound) : t.RecordsSound ∧ t.ParkingSound :=
  exec_keeps_records (P := fun s => s.RecordsSound ∧ s.ParkingSound)
    (fun _ _ channels trigger _ notices h =>
      ⟨recordsSound_of_same channels trigger h.1,
        (sameParked_quiet channels notices).sound h.2⟩)
    ⟨(reset_inStep false).1, reset_parkingSound⟩
    (fun _ _ _ m h =>
      ⟨(State.InStep.move m (fun _ => rfl) ⟨h.1, by simp⟩).1, m.parkingSound h.1 h.2⟩) ran h

end

end Sys2Proof.Machine

open Sys2Proof Sys2Proof.Machine

/-- Settles O11: what a move makes of a Notice Unit keeps its room, sequence and counts; and a channel
becomes POSTING as it is parked, and ceases to be as it is released or freed. -/
theorem noticesStayInSequence : Obligations.NoticesStayInSequence := by
  intro s t ran
  refine ⟨fun h => ?_, fun records h => ?_⟩
  · exact step_keeps (P := State.NoticesSound) (fun _ _ => noticesSound_of_same rfl)
      (fun _ _ => noticesSound_of_same rfl) (fun _ _ _ h ran => exec_noticesSound ran h) ran h
  · have same (s t : State) (channels : t.channels = s.channels) (trigger : t.trigger = s.trigger)
        (notices : t.notices = s.notices) (h : s.RecordsSound ∧ s.ParkingSound) :
        t.RecordsSound ∧ t.ParkingSound :=
      ⟨recordsSound_of_same channels trigger h.1,
        (sameParked_quiet channels notices).sound h.2⟩
    exact (step_keeps (P := fun s => s.RecordsSound ∧ s.ParkingSound)
      (fun _ _ => same _ _ rfl rfl rfl) (fun _ _ => same _ _ rfl rfl rfl)
      (fun _ _ _ h ran => exec_parkingSound ran h) ran ⟨records, h⟩).2

end

section
/-! PROOFS. Lines and channels: each move keeps the line and its channel naming each other, and a pending
trigger in the channel's PENDING line (R38, R40, R41). -/

namespace Sys2Proof.Machine

section
variable {s t : State}

theorem State.LinesSound.of_same (h : s.LinesSound) (channels : t.channels = s.channels)
    (lines : t.lines = s.lines) : t.LinesSound := by
  obtain ⟨unmapped, toChannel, toLine, pending⟩ := h
  refine ⟨?_, ?_, ?_, ?_⟩ <;> simpa only [line_of_same lines, channel_of_same channels]

/-- The line of a channel is mapped to that channel (R38). -/
theorem State.LinesSound.mapping_of_channel (h : s.LinesSound) {ch : ChannelNo} {l : LineNo}
    (names : (s.channel ch).mappedLine = some l) {m : Mapping} (mapped : (s.line l).mapping = some m) :
    m.channel = ch := h.channel_of_mapping names mapped

theorem State.LinesSound.mapped_of_state (h : s.LinesSound) {l : LineNo}
    (used : (s.line l).state ≠ .unmapped) : ∃ m, (s.line l).mapping = some m :=
  Option.ne_none_iff_exists'.1 fun none => used ((h.unmapped l).1 none)

/-! ### Writes of a record -/

/-- A record written with its line, and with its owner while it has a line, and without a new pending
trigger, leaves lines and channels in step. -/
theorem linesSound_write (h : s.LinesSound) {ch : ChannelNo} {c : Channel} (lines : t.lines = s.lines)
    (channels : t.channels = s.channels.put ch c)
    (mappedLine : c.mappedLine = (s.channel ch).mappedLine)
    (owner : c.mappedLine = none ∨ c.owner = (s.channel ch).owner)
    (pending : c.linePending = true → (s.channel ch).linePending = true) : t.LinesSound := by
  have record (x : ChannelNo) : t.channel x = if ch = x then c else s.channel x := by
    rw [← channel_setChannel]
    exact channel_of_same (s := s.setChannel ch c) channels x
  have names (x : ChannelNo) : (t.channel x).mappedLine = (s.channel x).mappedLine := by
    rw [record]
    split
    · next here => rw [mappedLine, here]
    · rfl
  refine ⟨?_, fun l m mapped => ?_, ?_, fun x waits => ?_⟩
  · simpa only [line_of_same lines] using h.unmapped
  · rw [line_of_same lines] at mapped
    obtain ⟨named, owned⟩ := h.toChannel l m mapped
    refine ⟨(names _).trans named, ?_⟩
    rw [record]
    split
    · next here =>
      subst here
      obtain none | same := owner
      · simp [none, named] at mappedLine
      · rw [same, owned]
    · exact owned
  · simpa only [line_of_same lines, names] using h.toLine
  · rw [names]
    have was : (s.channel x).linePending = true := by
      rw [record] at waits
      split at waits
      · next here => exact here ▸ pending waits
      · exact waits
    simpa only [line_of_same lines] using h.pending x was

theorem State.LinesSound.writeChannel (h : s.LinesSound) {ch : ChannelNo} {c : Channel}
    (mappedLine : c.mappedLine = (s.channel ch).mappedLine)
    (owner : c.mappedLine = none ∨ c.owner = (s.channel ch).owner)
    (pending : c.linePending = true → (s.channel ch).linePending = true) :
    (s.writeChannel ch c).LinesSound :=
  linesSound_write h (by simp) (writeChannel_channels s ch c) mappedLine owner pending

/-! ### A mapped line moves with its channel's record -/

/-- A mapped line that goes to another state of use, with its channel's record written in the same
happening, keeps its side of R40: a pending trigger only in PENDING. -/
theorem linesSound_lineMove (h : s.LinesSound) {l : LineNo} {m : Mapping} {x : Line} {c : Channel}
    (mapped : (s.line l).mapping = some m) (mapping : x.mapping = some m) (used : x.state ≠ .unmapped)
    (mappedLine : c.mappedLine = (s.channel m.channel).mappedLine)
    (owner : c.owner = (s.channel m.channel).owner) (pending : c.linePending = true → x.state = .pending)
    (lines : t.lines = s.lines.put l x) (channels : t.channels = s.channels.put m.channel c) :
    t.LinesSound := by
  have record (y : ChannelNo) : t.channel y = if m.channel = y then c else s.channel y := by
    rw [← channel_setChannel]
    exact channel_of_same (s := s.setChannel m.channel c) channels y
  have line (k : LineNo) : t.line k = if l = k then x else s.line k := by
    rw [← line_setLine]
    exact line_of_same (s := s.setLine l x) lines k
  have mapping_eq (k : LineNo) : (t.line k).mapping = (s.line k).mapping := by
    rw [line]
    split
    · next here => rw [mapping, ← mapped, here]
    · rfl
  have names (y : ChannelNo) : (t.channel y).mappedLine = (s.channel y).mappedLine := by
    rw [record]
    split
    · next here => rw [mappedLine, here]
    · rfl
  have owners (y : ChannelNo) : (t.channel y).owner = (s.channel y).owner := by
    rw [record]
    split
    · next here => rw [owner, here]
    · rfl
  have named := (h.toChannel l m mapped).1
  refine ⟨fun k => ?_, fun k n => ?_, fun y k => ?_, fun y waits => ?_⟩
  · rw [mapping_eq, line]
    split
    · next here =>
      subst here
      simp [mapped, used]
    · exact h.unmapped k
  · rw [mapping_eq, names, owners]
    exact h.toChannel k n
  · rw [names, mapping_eq]
    exact h.toLine y k
  · rw [names]
    by_cases here : m.channel = y
    · subst here
      rw [record, if_pos rfl] at waits
      exact ⟨l, named, by rw [line, if_pos rfl]; exact pending waits⟩
    · rw [record, if_neg here] at waits
      obtain ⟨k, named', state⟩ := h.pending y waits
      have apart : l ≠ k := fun same =>
        here (h.channel_of_mapping (l := l) (same ▸ named') mapped)
      exact ⟨k, named', by rwa [line, if_neg apart]⟩

theorem State.LinesSound.takeTrigger (h : s.LinesSound) (l : LineNo) : (s.takeTrigger l).LinesSound := by
  obtain same | ⟨m, mapped, -, -, taken⟩ := takeTrigger_taken s l
  · rwa [same]
  · rw [taken]
    exact linesSound_lineMove h (x := { s.line l with state := .pending })
      (c := { s.channel m.channel with linePending := true }) mapped mapped (by simp) rfl rfl
      (fun _ => rfl) (by simp) (writeChannel_channels _ _ _)

theorem State.LinesSound.channelAble (h : s.LinesSound) (ch : ChannelNo) :
    (s.channelAble ch).LinesSound := by
  unfold State.channelAble
  split
  · exact h.takeTrigger _
  · exact h

/-- A line that leaves SERVING or ACKING, or a PENDING line without its trigger, goes on alone. -/
theorem State.LinesSound.setLine (h : s.LinesSound) {l : LineNo} {m : Mapping} {st : LineState}
    {acks : Nat} (mapped : (s.line l).mapping = some m)
    (leaves : (s.line l).state = .serving ∨ (s.line l).state = .acking ∨
      (s.line l).state = .pending ∧ (s.channel m.channel).linePending = false)
    (enters : st = .waiting ∨ st = .acking) :
    (s.setLine l { s.line l with state := st, acks }).LinesSound := by
  have idle : (s.channel m.channel).linePending = false := by
    by_contra waits
    obtain ⟨k, named, state⟩ := h.pending m.channel (by simpa using waits)
    obtain rfl : k = l := Option.some.inj (named.symm.trans (h.toChannel l m mapped).1)
    obtain st | st | ⟨-, st⟩ := leaves
    · simp [st] at state
    · simp [st] at state
    · exact waits st
  refine linesSound_lineMove h (l := l) (c := s.channel m.channel)
    (x := { s.line l with state := st, acks }) mapped mapped ?_ rfl rfl (by simp [idle]) (by simp) ?_
  · obtain rfl | rfl := enters <;> simp
  · simp [State.channel]

/-! ### Mapping and unmapping (R45, R46, R48) -/

theorem State.LinesSound.unmap (h : s.LinesSound) (l : LineNo) : (s.unmap l).LinesSound := by
  obtain ⟨none, same⟩ | ⟨m, mapped, unmaps⟩ := unmap_cases s l
  · have blank : ({ s.line l with state := .unmapped, mapping := .none } : Line) = s.line l := by
      rw [← none, ← (h.unmapped l).1 none]
    rw [same, blank]
    exact h.of_same rfl (by simp [State.line])
  · rw [unmaps]
    set t := (s.setLine l { s.line l with state := .unmapped, mapping := .none }).writeChannel m.channel
      { s.channel m.channel with mappedLine := .none, linePending := false } with ht
    have line (k : LineNo) : t.line k =
        if l = k then { s.line l with state := .unmapped, mapping := .none } else s.line k := by
      rw [← line_setLine]
      exact line_of_same (by simp [ht]) k
    have record (y : ChannelNo) : t.channel y = if m.channel = y then
        { s.channel m.channel with mappedLine := .none, linePending := false } else s.channel y := by
      rw [ht, channel_writeChannel]
      rfl
    obtain ⟨named, -⟩ := h.toChannel l m mapped
    have apart {k : LineNo} {y : ChannelNo} (names : (s.channel y).mappedLine = some k)
        (other : m.channel ≠ y) : l ≠ k := fun same =>
      other (h.channel_of_mapping (l := l) (same ▸ names) mapped)
    refine ⟨fun k => ?_, fun k n isMapped => ?_, fun y k names => ?_, fun y waits => ?_⟩
    · rw [line]
      split
      · simp
      · exact h.unmapped k
    · rw [line] at isMapped
      split at isMapped
      · cases isMapped
      · next other =>
        obtain ⟨names, owned⟩ := h.toChannel k n isMapped
        have away : m.channel ≠ n.channel := fun same => by
          rw [← same, named] at names
          exact other (Option.some.inj names)
        rw [record, if_neg away]
        exact ⟨names, owned⟩
    · rw [record] at names
      split at names
      · cases names
      · next other =>
        rw [line, if_neg (apart names other)]
        exact h.toLine y k names
    · rw [record] at waits
      split at waits
      · cases waits
      · next other =>
        obtain ⟨k, names, state⟩ := h.pending y waits
        refine ⟨k, ?_, ?_⟩
        · rw [record, if_neg other]
          exact names
        · rw [line, if_neg (apart names other)]
          exact state

theorem State.LinesSound.mapLine (h : s.LinesSound) {p : Port} {l : LineNo} {ch : ChannelNo}
    (owned : (s.channel ch).owner = some p) (unmapped : (s.line l).state = .unmapped)
    (noLine : (s.channel ch).mappedLine = none) :
    ((s.setLine l { s.line l with state := .waiting, mapping := some ⟨ch, p⟩ }).setChannel ch
      { s.channel ch with mappedLine := some l }).LinesSound := by
  set t := (s.setLine l { s.line l with state := .waiting, mapping := some ⟨ch, p⟩ }).setChannel ch
    { s.channel ch with mappedLine := some l } with ht
  have line (k : LineNo) : t.line k =
      if l = k then { s.line l with state := .waiting, mapping := some ⟨ch, p⟩ } else s.line k :=
    line_setLine s l k _
  have record (y : ChannelNo) : t.channel y =
      if ch = y then { s.channel ch with mappedLine := some l } else s.channel y := by
    rw [ht, channel_setChannel]
    rfl
  have free : (s.line l).mapping = none := (h.unmapped l).2 unmapped
  refine ⟨fun k => ?_, fun k n isMapped => ?_, fun y k names => ?_, fun y waits => ?_⟩
  · rw [line]
    split
    · simp
    · exact h.unmapped k
  · rw [line] at isMapped
    split at isMapped
    · next here =>
      cases isMapped
      rw [record, if_pos rfl]
      exact ⟨by rw [here], owned⟩
    · obtain ⟨names, owner⟩ := h.toChannel k n isMapped
      have away : ch ≠ n.channel := fun same => by simp [← same, noLine] at names
      rw [record, if_neg away]
      exact ⟨names, owner⟩
  · rw [record] at names
    split at names
    · next here =>
      cases names
      exact ⟨⟨ch, p⟩, by rw [line, if_pos rfl], here⟩
    · obtain ⟨n, mapped, back⟩ := h.toLine y k names
      refine ⟨n, ?_, back⟩
      rw [line, if_neg fun same => by rw [← same, free] at mapped; cases mapped]
      exact mapped
  · rw [record] at waits
    split at waits
    · next here =>
      subst here
      obtain ⟨k, names, -⟩ := h.pending ch waits
      simp [noLine] at names
    · next other =>
      obtain ⟨k, names, state⟩ := h.pending y waits
      refine ⟨k, by rw [record, if_neg other]; exact names, ?_⟩
      rw [line, if_neg fun same => by rw [← same, unmapped] at state; cases state]
      exact state

theorem State.LinesSound.dropLine (h : s.LinesSound) (ch : ChannelNo) :
    (s.dropLine ch).LinesSound ∧ ((s.dropLine ch).channel ch).mappedLine = none := by
  unfold State.dropLine
  split
  · next l named =>
    refine ⟨h.unmap l, ?_⟩
    obtain ⟨m, mapped, rfl⟩ := h.toLine ch l named
    obtain ⟨none, -⟩ | ⟨n, mapped', unmaps⟩ := unmap_cases s l
    · simp [mapped] at none
    · obtain rfl : m = n := Option.some.inj (mapped.symm.trans mapped')
      rw [unmaps, channel_writeChannel_self]
  · next none => exact ⟨h, none⟩

theorem State.LinesSound.freeChannel (h : s.LinesSound) (ch : ChannelNo) :
    (s.freeChannel ch).LinesSound := by
  obtain ⟨dropped, none⟩ := h.dropLine ch
  rw [freeChannel_eq]
  have unparked : ((s.dropLine ch).dropNotice (s.channel ch).owner ch).LinesSound := by
    cases (s.channel ch).owner with
    | none => exact dropped
    | some p => exact dropped.of_same rfl rfl
  refine unparked.writeChannel ?_ (.inl rfl) nofun
  rw [dropNotice_channel, none]
  rfl

/-! ### The end of a unit -/

theorem State.LinesSound.enterNext (h : s.LinesSound) (ch : ChannelNo) (next : AfterState) :
    (s.enterNext ch next).LinesSound := by
  refine State.LinesSound.channelAble (h.writeChannel ?_ (.inr ?_) ?_) ch
  all_goals cases next <;> simp [Channel.settled]

theorem State.LinesSound.park (h : s.LinesSound) (ch : ChannelNo) (p : Port) (n : ChannelNotice)
    (next : AfterState) : (s.park ch p n next).LinesSound := by
  have parked : (s.setNoticeUnit p
      { s.noticeUnit p with parking := (s.noticeUnit p).parking ++ [⟨ch, n⟩] }).LinesSound :=
    h.of_same rfl rfl
  refine State.LinesSound.channelAble (parked.writeChannel ?_ (.inr ?_) ?_) ch <;> simp

theorem State.LinesSound.concludeUnit (h : s.LinesSound) (ch : ChannelNo)
    (notice : Option ChannelNotice) (next : AfterState) : (s.concludeUnit ch notice next).LinesSound := by
  obtain e | ⟨p, n, -, -, ⟨-, e⟩ | e⟩ := concludeUnit_cases s ch notice next
  · rw [e]
    exact h.enterNext ch next
  · have entered : (s.setNoticeUnit p ((s.noticeUnit p).enter (.channel n) 1)).LinesSound :=
      h.of_same rfl rfl
    rw [e]
    exact entered.enterNext ch next
  · rw [e]
    exact h.park ch p n next

theorem State.LinesSound.unitEnd (h : s.LinesSound) (ch : ChannelNo) (r : Progress) (o : Origin) :
    (s.unitEnd ch r o).LinesSound := by
  unfold State.unitEnd
  dsimp only
  split
  · exact h
  · next ld _ =>
    have written : (s.writeChannel ch
        { s.channel ch with loaded := some (ld.advance r) }).LinesSound :=
      h.writeChannel rfl (.inr rfl) id
    exact (written.of_same (by simp) (by simp)).concludeUnit ch _ _

theorem State.LinesSound.stopUnit (h : s.LinesSound) (ch : ChannelNo) (r : Progress) (c : StopCause) :
    (s.stopUnit ch r c).LinesSound := by
  unfold State.stopUnit
  dsimp only
  split
  · unfold State.freeStopped
    split
    · exact (h.freeChannel ch).of_same (by simp) (by simp)
    · exact h.freeChannel ch
  · split
    · exact h
    · next ld _ =>
      have returned : (s.returnLine ch).LinesSound := h.of_same (by simp) (by simp)
      have record : (s.returnLine ch).channel ch = s.channel ch := channel_of_same (by simp) ch
      refine State.LinesSound.concludeUnit (returned.writeChannel ?_ (.inr ?_) ?_) ch _ _ <;>
        simp [record, Channel.stopped]

/-! ### Dispatch (R35, R41) -/

theorem Channel.dispatched_owner (c : Channel) : c.dispatched.owner = c.owner := by
  unfold Channel.dispatched
  split <;> rfl

theorem Channel.dispatched_linePending (c : Channel) : c.dispatched.linePending = false := by
  unfold Channel.dispatched
  split
  · rfl
  · next idle => simpa using idle

theorem linesSound_dispatched (h : s.LinesSound) {ch : ChannelNo}
    (lines : t.lines = (s.serveLine (s.channel ch)).lines)
    (channels : t.channels = s.channels.put ch (s.channel ch).dispatched) : t.LinesSound := by
  have mappedLine := (s.channel ch).dispatched_mappedLine
  have owner := (s.channel ch).dispatched_owner
  have idle := (s.channel ch).dispatched_linePending
  by_cases waits : (s.channel ch).linePending = true
  · obtain ⟨l, named, -⟩ := h.pending ch waits
    obtain ⟨m, mapped, rfl⟩ := h.toLine ch l named
    refine linesSound_lineMove h (x := { s.line l with state := .serving }) mapped mapped (by simp)
      mappedLine owner (by simp [idle]) ?_ channels
    rw [lines]
    simp [State.serveLine, waits, named]
  · refine linesSound_write h ?_ channels mappedLine (.inr owner) (by simp [idle])
    rw [lines]
    simp [State.serveLine, waits]

theorem State.LinesSound.dispatchHead (h : s.LinesSound) (e : EngineNo) (k : SchedClass)
    (ch : ChannelNo) (rest : List ChannelNo) : (s.dispatchHead e k ch rest).LinesSound := by
  unfold State.dispatchHead
  dsimp only
  split
  · have queued : (s.setTrigger ((s.trigger.setQueue k rest).countSkips k)).LinesSound :=
      h.of_same rfl rfl
    exact State.LinesSound.channelAble
      (linesSound_dispatched queued (ch := ch) (by simp; rfl) (by simp; rfl)) ch
  · exact h

/-! ### Every move -/

theorem Move.linesSound {rel : Bool} (m : Move rel s t) (records : s.RecordsSound) (h : s.LinesSound) :
    t.LinesSound := by
  cases m with
  | quiet channels _ lines => exact h.of_same channels lines
  | claim p ch _ free =>
    have blank := (records.1 ch).free free
    exact h.writeChannel (by simp [blank, Channel.free]) (.inl rfl) nofun
  | free ch => exact h.freeChannel ch
  | load ch => exact h.writeChannel rfl (.inr rfl) id
  | resume ch => exact h.writeChannel rfl (.inr rfl) nofun
  | credit ch => exact h.writeChannel rfl (.inr rfl) id
  | abortReady ch =>
    obtain e | ⟨l, named, -, -, e⟩ := abortReady_cases s ch
    · rw [e]
      exact h.writeChannel rfl (.inr rfl) nofun
    · obtain ⟨m, mapped, rfl⟩ := h.toLine ch l named
      rw [e]
      exact linesSound_lineMove h (x := { s.line l with state := .waiting })
        (c := { s.channel m.channel with state := .idle, credit := 0, linePending := false }) mapped
        mapped (by simp) rfl rfl nofun (by simp) (writeChannel_channels _ _ _)
  | stop ch => exact h.writeChannel rfl (.inr rfl) id
  | abortPosting ch => exact h.writeChannel rfl (.inr rfl) id
  | abortFaulted ch => exact h.writeChannel rfl (.inr rfl) id
  | takeTrigger l => exact h.takeTrigger l
  | unmap l => exact h.unmap l
  | mapLine p l ch _ owned unmapped noLine => exact h.mapLine owned unmapped noLine
  | line l m st acks mapped leaves enters => exact h.setLine mapped leaves enters
  | endAck l acking =>
    obtain ⟨m, mapped⟩ := h.mapped_of_state (l := l) (by simp [acking])
    exact h.setLine mapped (.inr (.inl acking)) (.inl rfl)
  | dropFreed => exact h.of_same rfl rfl
  | join ch => exact h.of_same (by simp) (by simp)
  | dispatch e k ch rest => exact h.dispatchHead e k ch rest
  | unitEnd ch r o report =>
    obtain ⟨rest, rfl⟩ := takeReport_eq report
    refine State.LinesSound.unitEnd ?_ ch r o
    exact h.of_same rfl rfl
  | stopUnit ch r c b report =>
    obtain ⟨rest, rfl⟩ := takeReport_eq report
    refine State.LinesSound.stopUnit ?_ ch r c
    exact h.of_same rfl rfl
  | place | pop | enable | clear => exact h.of_same rfl rfl
  | release p x xs ch =>
    unfold State.unparkChannel
    dsimp only
    split
    · next next _ =>
      refine linesSound_write h rfl rfl ?_ (.inr ?_) ?_
      all_goals cases next <;> simp [Channel.settled]
    · exact h.of_same rfl rfl

theorem reset_linesSound : State.reset.LinesSound := by
  have noLine (l : LineNo) : State.reset.line l = ⟨.unmapped, none, 0⟩ := Table.row_fill _ _
  have blank (ch : ChannelNo) : State.reset.channel ch = .free := Table.row_fill _ _
  refine ⟨fun l => ?_, fun l m mapped => ?_, fun ch l named => ?_, fun ch waits => ?_⟩
  · simp [noLine]
  · simp [noLine] at mapped
  · simp [blank, Channel.free] at named
  · simp [blank, Channel.free] at waits

theorem exec_linesSound {c : Instr} (ran : exec c s = .next t) (h : s.RecordsSound ∧ s.LinesSound) :
    t.RecordsSound ∧ t.LinesSound :=
  exec_keeps_records (P := fun s => s.RecordsSound ∧ s.LinesSound)
    (fun _ _ channels trigger lines _ h =>
      ⟨recordsSound_of_same channels trigger h.1, h.2.of_same channels lines⟩)
    ⟨(reset_inStep false).1, reset_linesSound⟩
    (fun _ _ _ m h =>
      ⟨(State.InStep.move m (fun _ => rfl) ⟨h.1, by simp⟩).1, m.linesSound h.1 h.2⟩) ran h

end

end Sys2Proof.Machine

open Sys2Proof Sys2Proof.Machine

/-- Settles O8: a line and its channel are mapped and unmapped together, and a line enters or leaves
PENDING with its channel's record, or once the trigger is no longer pending there. -/
theorem linesAndChannelsStayMutual : Obligations.LinesAndChannelsStayMutual := by
  intro s t records h ran
  have same (s t : State) (channels : t.channels = s.channels) (trigger : t.trigger = s.trigger)
      (lines : t.lines = s.lines) (h : s.RecordsSound ∧ s.LinesSound) :
      t.RecordsSound ∧ t.LinesSound :=
    ⟨recordsSound_of_same channels trigger h.1, h.2.of_same channels lines⟩
  exact (step_keeps (P := fun s => s.RecordsSound ∧ s.LinesSound) (fun _ _ => same _ _ rfl rfl rfl)
    (fun _ _ => same _ _ rfl rfl rfl) (fun _ _ _ h ran => exec_linesSound ran h) ran ⟨records, h⟩).2

end

section
/-! PROOFS. A port that is not ONLINE gains nothing: every way to gain a channel, a line, an open aperture
or a notice asks the session first (R3, R90, R137, R138, R141, R156). -/

namespace Sys2Proof.Machine

section
variable {s t : State}

/-! ### Sessions stand still in a move -/

theorem Move.ports {rel : Bool} (m : Move rel s t) : t.ports = s.ports := by
  cases m with
  | quiet _ _ _ _ ports => exact ports
  | unitEnd ch r o report =>
    obtain ⟨rest, rfl⟩ := takeReport_eq report
    simp
  | stopUnit ch r c b report =>
    obtain ⟨rest, rfl⟩ := takeReport_eq report
    simp
  | _ => simp

/-! ### Owners (R3, R4) -/

/-- What can become of a channel's owner: it stays, the channel becomes FREE, or an ONLINE port claims
it. -/
def OwnerChange (s : State) (was now : Option Port) : Prop :=
  now = was ∨ now = none ∨ ∃ p, s.online p = true ∧ now = some p

theorem ownerChange_of_same (h : t.channels = s.channels) (ch : ChannelNo) :
    (t.channel ch).owner = (s.channel ch).owner := congrArg Channel.owner (channel_of_same h ch)

theorem writeChannel_owner {ch : ChannelNo} {c : Channel} (same : c.owner = (s.channel ch).owner)
    (x : ChannelNo) : ((s.writeChannel ch c).channel x).owner = (s.channel x).owner := by
  rw [channel_writeChannel]
  split
  · next here => rw [same, here]
  · rfl

theorem freeChannel_owner (s : State) (ch x : ChannelNo) :
    ((s.freeChannel ch).channel x).owner = (s.channel x).owner ∨
      ((s.freeChannel ch).channel x).owner = none := by
  by_cases here : ch = x
  · subst here
    exact .inr (by simp [Channel.free])
  · exact .inl (freeChannel_keeps s Channel.owner (fun _ _ _ => rfl) here)

theorem enterNext_owner (s : State) (ch : ChannelNo) (next : AfterState) (x : ChannelNo) :
    ((s.enterNext ch next).channel x).owner = (s.channel x).owner := by
  unfold State.enterNext
  rw [channelAble_owner, writeChannel_owner]
  cases next <;> rfl

theorem park_owner (s : State) (ch : ChannelNo) (p : Port) (n : ChannelNotice) (next : AfterState)
    (x : ChannelNo) : ((s.park ch p n next).channel x).owner = (s.channel x).owner := by
  unfold State.park
  dsimp only
  rw [channelAble_owner, writeChannel_owner]
  · rfl
  · rfl

theorem concludeUnit_owner (s : State) (ch : ChannelNo) (n : Option ChannelNotice) (next : AfterState)
    (x : ChannelNo) : ((s.concludeUnit ch n next).channel x).owner = (s.channel x).owner := by
  obtain e | ⟨p, n, -, -, ⟨-, e⟩ | e⟩ := concludeUnit_cases s ch n next
  · rw [e, enterNext_owner]
  · rw [e, enterNext_owner]
    rfl
  · rw [e, park_owner]

theorem unitEnd_owner (s : State) (ch : ChannelNo) (r : Progress) (o : Origin) (x : ChannelNo) :
    ((s.unitEnd ch r o).channel x).owner = (s.channel x).owner := by
  unfold State.unitEnd
  dsimp only
  split
  · rfl
  · rw [concludeUnit_owner, acknowledge_fireLink_channel, writeChannel_owner]
    rfl

theorem stopUnit_owner (s : State) (ch : ChannelNo) (r : Progress) (c : StopCause) (x : ChannelNo) :
    ((s.stopUnit ch r c).channel x).owner = (s.channel x).owner ∨
      ((s.stopUnit ch r c).channel x).owner = none := by
  unfold State.stopUnit
  dsimp only
  split
  · unfold State.freeStopped
    split
    · rw [channel_of_same (s := s.freeChannel ch) (t := (s.freeChannel ch).reportChannels _) (by simp)]
      exact freeChannel_owner s ch x
    · exact freeChannel_owner s ch x
  · split
    · exact .inl rfl
    · have record (y : ChannelNo) : (s.returnLine ch).channel y = s.channel y :=
        channel_of_same (by simp) y
      rw [concludeUnit_owner, writeChannel_owner, record]
      · exact .inl rfl
      · rw [record]
        rfl

theorem Move.owner {rel : Bool} (m : Move rel s t) (x : ChannelNo) :
    OwnerChange s (s.channel x).owner (t.channel x).owner := by
  cases m with
  | quiet channels => exact .inl (ownerChange_of_same channels x)
  | claim p ch online =>
    rw [channel_writeChannel]
    split
    · exact .inr (.inr ⟨p, online, rfl⟩)
    · exact .inl rfl
  | free ch => exact (freeChannel_owner s ch x).imp id .inl
  | load | resume | credit | stop | abortPosting | abortFaulted => exact .inl (writeChannel_owner (by rfl) x)
  | abortReady ch =>
    obtain e | ⟨l, -, -, -, e⟩ := abortReady_cases s ch
    · rw [e]
      exact .inl (writeChannel_owner (by rfl) x)
    · rw [e, writeChannel_owner]
      · exact .inl rfl
      · rfl
  | takeTrigger l => exact .inl (takeTrigger_owner s l x)
  | unmap l => exact .inl (unmap_owner s l x)
  | mapLine p l ch =>
    rw [channel_setChannel]
    split
    · next here => exact .inl (here ▸ rfl)
    · exact .inl rfl
  | dispatch e k ch rest =>
    unfold State.dispatchHead
    dsimp only
    split
    · refine .inl ((channelAble_owner _ ch x).trans ?_)
      rw [channel_of_same (s := s.setChannel ch (s.channel ch).dispatched) (by simp), channel_setChannel]
      split
      · next here => rw [Channel.dispatched_owner, here]
      · rfl
    · exact .inl rfl
  | unitEnd ch r o report =>
    obtain ⟨rest, rfl⟩ := takeReport_eq report
    exact .inl (unitEnd_owner _ ch r o x)
  | stopUnit ch r c b report =>
    obtain ⟨rest, rfl⟩ := takeReport_eq report
    exact (stopUnit_owner (s.setWires _) ch r c x).imp id .inl
  | release p y ys ch =>
    unfold State.unparkChannel
    dsimp only
    split
    · next next _ =>
      rw [channel_setChannel]
      split
      · next here => subst here; exact .inl (by cases next <;> rfl)
      · exact .inl rfl
    · exact .inl rfl
  | line | endAck | dropFreed | place | pop | enable | clear => exact .inl rfl
  | join ch => exact .inl (ownerChange_of_same (by simp) x)

/-! ### Mappings (R45) -/

/-- What can become of a line's mapping: it stays, it goes, or an ONLINE port maps the line. -/
def MappingChange (s : State) (was now : Option Mapping) : Prop :=
  now = was ∨ now = none ∨ ∃ m, s.online m.port = true ∧ now = some m

theorem mapping_of_lines (h : t.lines = s.lines) (l : LineNo) :
    (t.line l).mapping = (s.line l).mapping := congrArg Line.mapping (line_of_same h l)

theorem setLine_mapping {k : LineNo} {x : Line} (same : x.mapping = (s.line k).mapping) (l : LineNo) :
    ((s.setLine k x).line l).mapping = (s.line l).mapping := by
  rw [line_setLine]
  split
  · next here => rw [same, here]
  · rfl

theorem takeTrigger_mapping (s : State) (k l : LineNo) :
    ((s.takeTrigger k).line l).mapping = (s.line l).mapping := by
  obtain same | ⟨m, -, -, -, taken⟩ := takeTrigger_taken s k
  · rw [same]
  · rw [taken, mapping_of_lines (s := s.setLine k { s.line k with state := .pending }) (by simp)]
    exact setLine_mapping (by rfl) l

theorem channelAble_mapping (s : State) (ch : ChannelNo) (l : LineNo) :
    ((s.channelAble ch).line l).mapping = (s.line l).mapping := by
  unfold State.channelAble
  split
  · exact takeTrigger_mapping s _ l
  · rfl

theorem unmap_mapping (s : State) (k l : LineNo) :
    ((s.unmap k).line l).mapping = (s.line l).mapping ∨ ((s.unmap k).line l).mapping = none := by
  have lines : (s.unmap k).lines =
      (s.setLine k { s.line k with state := .unmapped, mapping := none }).lines := by
    obtain ⟨-, e⟩ | ⟨m, -, e⟩ := unmap_cases s k
    · rw [e]
    · rw [e]
      simp
  rw [line_of_same lines, line_setLine]
  split
  · exact .inr rfl
  · exact .inl rfl

theorem freeChannel_mapping (s : State) (ch : ChannelNo) (l : LineNo) :
    ((s.freeChannel ch).line l).mapping = (s.line l).mapping ∨
      ((s.freeChannel ch).line l).mapping = none := by
  have lines : (s.freeChannel ch).lines = (s.dropLine ch).lines := by
    rw [freeChannel_eq]
    cases (s.channel ch).owner <;> simp [State.dropNotice]
  rw [line_of_same lines]
  unfold State.dropLine
  split
  · exact unmap_mapping s _ l
  · exact .inl rfl

theorem concludeUnit_mapping (s : State) (ch : ChannelNo) (n : Option ChannelNotice)
    (next : AfterState) (l : LineNo) :
    ((s.concludeUnit ch n next).line l).mapping = (s.line l).mapping := by
  obtain e | ⟨p, n, -, -, ⟨-, e⟩ | e⟩ := concludeUnit_cases s ch n next <;> rw [e]
  · exact (channelAble_mapping _ ch l).trans (mapping_of_lines (by simp) l)
  · exact (channelAble_mapping _ ch l).trans (mapping_of_lines (by simp) l)
  · exact (channelAble_mapping _ ch l).trans (mapping_of_lines (by simp) l)

theorem unitEnd_mapping (s : State) (ch : ChannelNo) (r : Progress) (o : Origin) (l : LineNo) :
    ((s.unitEnd ch r o).line l).mapping = (s.line l).mapping := by
  unfold State.unitEnd
  dsimp only
  split
  · rfl
  · exact (concludeUnit_mapping _ ch _ _ l).trans (mapping_of_lines (by simp) l)

theorem stopUnit_mapping (s : State) (ch : ChannelNo) (r : Progress) (c : StopCause) (l : LineNo) :
    ((s.stopUnit ch r c).line l).mapping = (s.line l).mapping ∨
      ((s.stopUnit ch r c).line l).mapping = none := by
  unfold State.stopUnit
  dsimp only
  split
  · unfold State.freeStopped
    split
    · rw [mapping_of_lines (s := s.freeChannel ch) (t := (s.freeChannel ch).reportChannels _) (by simp)]
      exact freeChannel_mapping s ch l
    · exact freeChannel_mapping s ch l
  · split
    · exact .inl rfl
    · exact .inl ((concludeUnit_mapping _ ch _ _ l).trans (mapping_of_lines (by simp) l))

theorem Move.mapping {rel : Bool} (m : Move rel s t) (l : LineNo) :
    MappingChange s (s.line l).mapping (t.line l).mapping := by
  cases m with
  | quiet _ _ lines => exact .inl (mapping_of_lines lines l)
  | free ch => exact (freeChannel_mapping s ch l).imp id .inl
  | abortReady ch =>
    obtain e | ⟨k, -, -, -, e⟩ := abortReady_cases s ch <;> rw [e]
    · exact .inl (mapping_of_lines (by simp) l)
    · refine .inl (Eq.trans (mapping_of_lines ?_ l) (setLine_mapping (k := k)
        (x := { s.line k with state := .waiting }) rfl l))
      simp
  | takeTrigger k => exact .inl (takeTrigger_mapping s k l)
  | unmap k => exact (unmap_mapping s k l).imp id .inl
  | mapLine p k ch online =>
    change MappingChange s _ ((s.setLine k _).line l).mapping
    rw [line_setLine]
    split
    · exact .inr (.inr ⟨⟨ch, p⟩, online, rfl⟩)
    · exact .inl rfl
  | line | endAck => exact .inl (setLine_mapping (by rfl) l)
  | dispatch e k ch rest =>
    unfold State.dispatchHead
    dsimp only
    split
    · refine .inl ((channelAble_mapping _ ch l).trans ?_)
      rw [mapping_of_lines (s := (s.setTrigger ((s.trigger.setQueue k rest).countSkips k)).serveLine
        (s.channel ch)) (by simp), serveLine_mapping]
      rfl
    · exact .inl rfl
  | unitEnd ch r o report =>
    obtain ⟨rest, rfl⟩ := takeReport_eq report
    exact .inl (unitEnd_mapping _ ch r o l)
  | stopUnit ch r c b report =>
    obtain ⟨rest, rfl⟩ := takeReport_eq report
    exact (stopUnit_mapping (s.setWires _) ch r c l).imp id .inl
  | _ => exact .inl (mapping_of_lines (by simp) l)

/-! ### What a port gains of the records -/

/-- A port's channels, lines and notices: nothing new of them. -/
structure State.GainsNone (p : Port) (s t : State) : Prop where
  owner : ∀ ch, (t.channel ch).owner = some p → (s.channel ch).owner = some p
  mapping : ∀ l ch, (t.line l).mapping = some ⟨ch, p⟩ → (s.line l).mapping = some ⟨ch, p⟩
  queue : (t.noticeUnit p).queue = (s.noticeUnit p).queue ∨ (t.noticeUnit p).queue = []
  deferred : (t.noticeUnit p).deferred = (s.noticeUnit p).deferred ∨ (t.noticeUnit p).deferred = []
  parking : ∀ x ∈ (t.noticeUnit p).parking, x ∈ (s.noticeUnit p).parking

theorem gainsNone_of_same (p : Port) (channels : t.channels = s.channels) (lines : t.lines = s.lines)
    (notices : t.notices = s.notices) : s.GainsNone p t := by
  refine ⟨fun ch => ?_, fun l ch => ?_, .inl ?_, .inl ?_, ?_⟩
  · rw [channel_of_same channels]
    exact id
  · rw [line_of_same lines]
    exact id
  all_goals rw [noticeUnit_of_same notices]
  exact fun _ => id

theorem State.GainsNone.trans {u : State} {p : Port} (h : s.GainsNone p t) (k : t.GainsNone p u) :
    s.GainsNone p u where
  owner ch own := h.owner ch (k.owner ch own)
  mapping l ch mapped := h.mapping l ch (k.mapping l ch mapped)
  queue := k.queue.elim (fun same => same ▸ h.queue) .inr
  deferred := k.deferred.elim (fun same => same ▸ h.deferred) .inr
  parking x hx := h.parking x (k.parking x hx)

theorem Move.gainsNone {rel : Bool} (m : Move rel s t) {p : Port} (offline : s.online p = false) :
    s.GainsNone p t := by
  have unit : (s.noticeUnit p).Change false (t.noticeUnit p) := offline ▸ m.noticeUnit p
  refine ⟨fun ch own => ?_, fun l ch mapped => ?_, ?_, ?_, ?_⟩
  · obtain same | none | ⟨q, online, claimed⟩ := m.owner ch
    · rwa [← same]
    · simp [none] at own
    · obtain rfl : p = q := Option.some.inj (own.symm.trans claimed)
      simp [offline] at online
  · obtain same | none | ⟨n, online, gained⟩ := m.mapping l
    · rwa [← same]
    · simp [none] at mapped
    · obtain rfl := Option.some.inj (mapped.symm.trans gained)
      simp [offline] at online
  · cases unit with
    | keep queue => exact .inl queue
    | clear is => exact .inr (is ▸ rfl)
    | _ on => cases on
  · cases unit with
    | keep _ deferred => exact .inl deferred
    | clear is => exact .inr (is ▸ rfl)
    | _ on => cases on
  · cases unit with
    | keep _ _ _ parking => exact parking
    | clear is => exact is ▸ fun _ => id
    | _ on => cases on

theorem Moves.gainsNone {rel : Bool} (m : Moves rel s t) {p : Port} (offline : s.online p = false) :
    s.GainsNone p t := by
  suffices s.GainsNone p t ∧ t.online p = false from this.1
  induction m with
  | refl => exact ⟨gainsNone_of_same p rfl rfl rfl, offline⟩
  | tail _ last ih => exact ⟨ih.1.trans (last.gainsNone ih.2), (online_of_ports last.ports p).trans ih.2⟩

theorem exec_gainsNone {c : Instr} (ran : exec c s = .next t) {p : Port} (offline : s.online p = false) :
    s.GainsNone p t := by
  by_cases isReset : c = .powerOnReset
  · subst isReset
    cases ran
    refine ⟨fun ch own => ?_, fun l ch mapped => ?_, .inr ?_, .inr ?_, fun x hx => ?_⟩
    · have blank : State.reset.channel ch = .free := Table.row_fill _ _
      change (State.reset.channel ch).owner = some p at own
      simp [blank, Channel.free] at own
    · have noLine : State.reset.line l = ⟨.unmapped, none, 0⟩ := Table.row_fill _ _
      change (State.reset.line l).mapping = some ⟨ch, p⟩ at mapped
      simp [noLine] at mapped
    · cases p <;> rfl
    · cases p <;> rfl
    · cases p <;> cases hx
  · cases records : movesRecords c with
    | false =>
      obtain ⟨channels, -, lines, notices⟩ := exec_records records ran
      exact gainsNone_of_same p channels lines notices
    | true => exact (exec_moves records isReset ran).gainsNone offline

/-! ### Open apertures (R90, R156) -/

/-- No aperture of the domain opens. -/
def State.OpensNone (d : Domain) (s t : State) : Prop :=
  ∀ i, (t.aperture d i).state = .open → (s.aperture d i).state = .open

theorem opensNone_of_apertures (h : t.apertures = s.apertures) (d : Domain) : s.OpensNone d t := by
  intro i
  rw [aperture_of_same h]
  exact id

/-- One record rewritten without opening it. -/
theorem opensNone_of_rewrite {d k : Domain} {i : ApertureNo} {y : Aperture}
    (read : ∀ j, t.aperture k j = if d = k ∧ i = j then y else s.aperture k j)
    (state : y.state = .open → (s.aperture d i).state = .open) : s.OpensNone k t := by
  intro j isOpen
  rw [read] at isOpen
  split at isOpen
  · next here =>
    obtain ⟨rfl, rfl⟩ := here
    exact state isOpen
  · exact isOpen

theorem State.OpensNone.trans {u : State} {d : Domain} (h : s.OpensNone d t) (k : t.OpensNone d u) :
    s.OpensNone d u := fun i isOpen => h i (k i isOpen)

theorem apertureCheck_eq_ok {d : Domain} {p : Port} {w : Word} {i : ApertureNo}
    (h : apertureCheck s d p w true = .ok i) : s.online p = true ∧ d = p := by
  unfold apertureCheck at h
  repeat' split at h
  all_goals cases h
  next online _ own _ => exact ⟨by simpa using online, by simpa using own⟩

theorem openApertureAct_ports (d : Domain) (q : Port) (a : Table Word 8) (s : State) :
    (openApertureAct d q a s).2.ports = s.ports := by
  unfold openApertureAct
  repeat' split
  all_goals simp

theorem revokeApertureAct_ports (d : Domain) (q : Port) (a : Table Word 8) (s : State) :
    (revokeApertureAct d q a s).2.ports = s.ports := by
  unfold revokeApertureAct
  dsimp only
  repeat' split
  all_goals simp

/-- An answer changes no session. -/
theorem writeAnswer_online (s : State) (q : Port) (a : Answer) (p : Port) :
    (s.writeAnswer q a).online p = s.online p := by
  have session : ((s.writeAnswer q a).port p).session = (s.port p).session := by
    unfold State.writeAnswer
    dsimp only
    split
    · split
      · rw [port_setPort]
        split
        · next here => rw [← here]
        · rfl
      · rfl
    · rfl
  unfold State.online
  rw [session]

theorem openApertureAct_opensNone (d : Domain) (q : Port) (a : Table Word 8) {p : Port}
    (offline : s.online p = false) : s.OpensNone p (openApertureAct d q a s).2 := by
  unfold openApertureAct
  split
  · exact fun _ => id
  · next i passed =>
    obtain ⟨online, own⟩ := apertureCheck_eq_ok passed
    have other : d ≠ p := fun same => by
      rw [← own, same, offline] at online
      cases online
    split
    · exact fun _ => id
    · split
      · exact fun _ => id
      · intro j
        rw [openApertureAt_aperture, if_neg fun here => other here.1]
        exact id

theorem revoke_opensNone (s : State) (d k : Domain) (i : ApertureNo) : s.OpensNone k (s.revoke d i) :=
  opensNone_of_rewrite (fun j => revoke_aperture s d k i j) fun state => by
    dsimp only at state
    split at state <;> cases state

theorem revokeApertureAct_opensNone (s : State) (d : Domain) (q : Port) (a : Table Word 8) (p : Port) :
    s.OpensNone p (revokeApertureAct d q a s).2 := by
  unfold revokeApertureAct
  split
  · exact fun _ => id
  · dsimp only
    split
    · exact fun _ => id
    · exact revoke_opensNone s d p _

theorem revokeIfOpen_opensNone (s : State) (d k : Domain) (i : ApertureNo) :
    s.OpensNone k (s.revokeIfOpen d i) := by
  unfold State.revokeIfOpen
  split
  · exact revoke_opensNone s d k i
  · exact fun _ => id

theorem execApertureUnitTeardown_opensNone {q : Port} (ran : execApertureUnitTeardown q s = .next t)
    (p : Port) : s.OpensNone p t := by
  by_cases due : (s.wires.directions.get q).apertureUnit = true
  · rw [execApertureUnitTeardown_of_due due] at ran
    cases ran
    have begun : s.OpensNone p (s.apertureTeardown q) := fun i => by
      rw [show (s.apertureTeardown q).aperture p i = s.aperture p i from aperture_setClearing _ q p true i]
      exact id
    have withdrawn := foldl_keeps (P := s.OpensNone p) (f := fun v i => v.revokeIfOpen q i)
      (fun u i h => h.trans (revokeIfOpen_opensNone u q p i)) (List.finRange 8) begun
    intro i
    rw [reportApertures_aperture]
    exact withdrawn i
  · rw [execApertureUnitTeardown] at ran
    simp only [due] at ran
    cases ran
    exact fun _ => id

theorem execAdmissionRequest_opensNone {d : Domain} (ran : execAdmissionRequest d s = .next t)
    (p : Port) : s.OpensNone p t := by
  unfold execAdmissionRequest at ran
  split at ran
  · next rest _ =>
    dsimp only at ran
    split at ran <;> cases ran
    · next i _ =>
      exact opensNone_of_rewrite (fun j => aperture_setAperture (s.setApertureWords d rest) d p i j _) id
    · exact fun _ => id
  · cases ran
    exact fun _ => id

theorem execUserEnd_opensNone {d : Domain} (ran : execUserEnd d s = .next t) (p : Port) :
    s.OpensNone p t := by
  unfold execUserEnd at ran
  split at ran <;> cases ran
  · next i rest _ =>
    refine opensNone_of_rewrite (fun j => endUser_aperture (s.setApertureWords d rest) d p i j) ?_
    unfold Aperture.lessUser
    dsimp only
    split
    · nofun
    · exact id
  · exact fun _ => id

theorem exec_opensNone {c : Instr} (ran : exec c s = .next t) {p : Port}
    (offline : s.online p = false) : s.OpensNone p t := by
  have command {c : Command} {act : Domain → Act} {q : Port}
      (effect : ∀ (d : Domain) (a : Table Word 8) (u : State),
        u.online p = false → u.OpensNone p (act d q a u).2 ∧ (act d q a u).2.ports = u.ports) :
      s.OpensNone p (apertureTakes c act q s) := by
    refine (apertureTakes_keeps (P := fun u => s.OpensNone p u ∧ u.online p = false)
      (fun _ _ h => h) (fun _ _ h => h) (fun u a h => ?_) (fun d a u h => ?_)
      ⟨fun _ => id, offline⟩).1
    · exact ⟨h.1.trans (opensNone_of_apertures (by simp) p), (writeAnswer_online u q a p).trans h.2⟩
    · obtain ⟨opens, ports⟩ := effect d a u h.2
      exact ⟨h.1.trans opens, (online_of_ports ports p).trans h.2⟩
  cases c with
  | openAperture q =>
    cases ran
    exact command fun d a u h => ⟨openApertureAct_opensNone d q a h, openApertureAct_ports d q a u⟩
  | revokeAperture q =>
    cases ran
    exact command fun d a u _ => ⟨revokeApertureAct_opensNone u d q a p, revokeApertureAct_ports d q a u⟩
  | queryAperture q =>
    cases ran
    exact command fun d a u _ => by
      rw [queryApertureAct_same]
      exact ⟨fun _ => id, rfl⟩
  | admissionRequest d => exact execAdmissionRequest_opensNone ran p
  | userEnd d => exact execUserEnd_opensNone ran p
  | apertureUnitTeardown q => exact execApertureUnitTeardown_opensNone ran p
  | powerOnReset =>
    cases ran
    intro i isOpen
    have blank : State.reset.aperture p i = ⟨.closed, none, 0, 0⟩ := by
      cases p <;> exact Table.row_fill _ _
    change (State.reset.aperture p i).state = .open at isOpen
    simp [blank] at isOpen
  | _ => exact opensNone_of_apertures (exec_frame ran .apertures (by simp)) p

end

end Sys2Proof.Machine

open Sys2Proof Sys2Proof.Machine

/-- Settles O4: a claim, a mapping, an opening and every notice that enters or is parked ask the session
first, and whatever else a happening does to those records takes away or leaves. -/
theorem portNotOnlineGainsNothing : Obligations.PortNotOnlineGainsNothing := by
  intro c s t p offline ran
  obtain ⟨owner, mapping, queue, deferred, parking⟩ := exec_gainsNone ran offline
  exact ⟨owner, mapping, exec_opensNone ran offline, queue, deferred, parking⟩

end

section
/-! PROOFS. The sixteen checks of LOAD: the code of a program field is told by arithmetic on its register,
and the program, or the number of the first check that fails, by the conditions of Table 1-4 in their
order (R7–R9, Tables 1-4 and 10-5). -/

namespace Sys2Proof.Machine

/-! ### Fields of a register -/

theorem bits_eq_field (w : Word) (lo n : Nat) : bits w lo n = field w.toNat lo n := by
  simp [bits, field, BitVec.extractLsb'_toNat, Nat.shiftRight_eq_div_pow]

theorem field_lt (v lo n : Nat) : field v lo n < 2 ^ n := Nat.mod_lt _ (by positivity)

/-! ### Codes (Table 10-5) -/

/-- The code of a mode before its block length is looked at. -/
def ModeCode.value : ModeCode → Nat
  | .single => 0
  | .run => 1
  | .block => 2

theorem modeCode_eq_some {n : Nat} {m : ModeCode} (h : modeCode n = some m) : m.value = n := by
  unfold modeCode at h
  split at h <;> cases h <;> rfl

theorem modeCode_eq_none {n : Nat} (h : modeCode n = none) (bound : n < 2 ^ 2) : n = 3 := by
  by_contra other
  have below : n < 3 := by omega
  interval_cases n <;> simp [modeCode] at h

theorem sizeCode_eq_some {n : Nat} {z : ElementSize} (h : sizeCode n = some z) :
    n < 4 ∧ z.bytes = 2 ^ n ∧ z.value = n := by
  unfold sizeCode at h
  split at h <;> cases h <;> decide

theorem sizeCode_eq_none {n : Nat} (h : sizeCode n = none) : 4 ≤ n := by
  by_contra other
  have below := Nat.not_le.1 other
  interval_cases n <;> simp [sizeCode] at h

theorem stepCode_eq_some {n : Nat} {x : Stepping} (h : stepCode n = some x) : n < 4 ∧ x.value = n := by
  unfold stepCode at h
  split at h <;> cases h <;> decide

theorem stepCode_eq_none {n : Nat} (h : stepCode n = none) : 4 ≤ n := by
  by_contra other
  have below := Nat.not_le.1 other
  interval_cases n <;> simp [stepCode] at h

theorem classCode_eq_some {n : Nat} {x : SchedClass} (h : classCode n = some x) :
    n < 3 ∧ x.value = n := by
  unfold classCode at h
  split at h <;> cases h <;> decide

theorem classCode_eq_none {n : Nat} (h : classCode n = none) (bound : n < 2 ^ 2) : n = 3 := by
  by_contra other
  have below : n < 3 := by omega
  interval_cases n <;> simp [classCode] at h

theorem readAheadCode_eq_some {n : Nat} {x : ReadAhead} (h : readAheadCode n = some x) :
    n < 6 ∧ x.value = n := by
  unfold readAheadCode at h
  split at h <;> cases h <;> decide

theorem readAheadCode_eq_none {n : Nat} (h : readAheadCode n = none) : 6 ≤ n := by
  by_contra other
  have below := Nat.not_le.1 other
  interval_cases n <;> simp [readAheadCode] at h

theorem policyCode_eq_some {n : Nat} {x : NoticePolicy} (h : policyCode n = some x) :
    n < 3 ∧ x.value = n := by
  unfold policyCode at h
  split at h <;> cases h <;> decide

theorem policyCode_eq_none {n : Nat} (h : policyCode n = none) (bound : n < 2 ^ 2) : n = 3 := by
  by_contra other
  have below : n < 3 := by omega
  interval_cases n <;> simp [policyCode] at h

theorem domainValue_domainBit {n : Nat} (bound : n < 2 ^ 1) : domainValue (domainBit n) = n := by
  interval_cases n <;> rfl

/-! ### Mode and block length (check 6) -/

theorem modeOf_eq_some {m : ModeCode} {length : Nat} {mode : Mode} (h : modeOf m length = some mode) :
    mode.value = m.value ∧ mode.blockLength = length ∧ (m ≠ .block → length = 0) ∧
      (m = .block → 1 ≤ length ∧ length ≤ 255) ∧ ∀ n, mode = .block n → 1 ≤ n ∧ n ≤ 255 := by
  have max : Config.blockMax = 255 := rfl
  cases m <;> dsimp only [modeOf] at h <;> split at h <;> cases h
  · next zero => simp [Mode.value, ModeCode.value, Mode.blockLength, zero]
  · next zero => simp [Mode.value, ModeCode.value, Mode.blockLength, zero]
  · next fits =>
    simp only [Bool.or_eq_true, decide_eq_true_eq, not_or, Nat.not_lt] at fits
    have inRange : 1 ≤ length ∧ length ≤ 255 := by omega
    exact ⟨rfl, rfl, fun other => absurd rfl other, fun _ => inRange, fun n is => by cases is; exact inRange⟩

theorem modeOf_eq_none {m : ModeCode} {length : Nat} (h : modeOf m length = none) :
    if m.value = 2 then length = 0 ∨ 255 < length else length ≠ 0 := by
  have max : Config.blockMax = 255 := rfl
  cases m <;> simp [modeOf, ModeCode.value] at h ⊢
  · exact h
  · exact h
  · omega

theorem blockSpan_eq {mode : Mode} (n : Nat) :
    blockSpan mode n = if mode.value = 2 then min mode.blockLength n else n := by
  cases mode <;> rfl

/-! ### Byte ranges (R8, R9) -/

theorem byteRange_eq (x : Stepping) (start : Word) (n s b : Nat) :
    byteRange x start n s b =
      ⟨lowestByte x.value start.toNat n s, highestByte x.value start.toNat n s b⟩ := by
  cases x <;> rfl

theorem fits_eq_false {r : ByteRange} : r.fits = false ↔ r.lo < 0 ∨ 4294967295 < r.hi := by
  rw [← Bool.not_eq_true]
  simp only [ByteRange.fits, Bool.and_eq_true, decide_eq_true_eq]
  omega

theorem overlaps_iff (src dst : Endpoint) (rs rd : ByteRange) :
    overlaps src dst rs rd = true ↔
      domainValue src.domain = domainValue dst.domain ∧ src.step.value ≠ 2 ∧ dst.step.value ≠ 2 ∧
        rs.lo ≤ rd.hi ∧ rd.lo ≤ rs.hi := by
  have fixed (x : Stepping) : (x != .fixed) = true ↔ x.value ≠ 2 := by cases x <;> decide
  simp only [overlaps, ByteRange.meets, Bool.and_eq_true, beq_iff_eq, fixed, decide_eq_true_eq,
    domainValue_inj, and_assoc]

/-! ### The link (check 12) -/

theorem linkArg_eq_none {w : Word} (h : linkArg w = none) :
    field w.toNat 9 1 = 1 ∧ 64 ≤ field w.toNat 0 8 := by
  have bit := field_lt w.toNat 9 1
  simp only [linkArg, bits_eq_field] at h
  split at h
  · cases h
  · split at h
    · cases h
    · omega

theorem linkArg_eq_some {w : Word} {k : Option Link} (h : linkArg w = some k) :
    ¬(field w.toNat 9 1 = 1 ∧ 64 ≤ field w.toNat 0 8) ∧
      (k.isSome ↔ field w.toNat 9 1 = 1) ∧
      ∀ x, k = some x → x.target.val = field w.toNat 0 8 ∧ x.condition.value = field w.toNat 8 1 := by
  have bit := field_lt w.toNat 9 1
  have condition := field_lt w.toNat 8 1
  simp only [linkArg, bits_eq_field] at h
  split at h
  · next absent =>
    cases h
    simp [absent]
  · next present =>
    split at h
    · next target =>
      cases h
      refine ⟨fun high => by omega, by simp; omega, fun x is => ?_⟩
      cases is
      refine ⟨rfl, ?_⟩
      dsimp only
      split
      · next zero => rw [zero]; rfl
      · simp only [LinkCondition.value]
        omega
    · cases h

/-! ### The conditions in their order -/

/-- The three checks of R8 and R9 on an argument block. -/
def loadRange (l : Latched) : Nat → Prop :=
  RangeCheckFails ⟨field (l.arg 1) 11 1, field (l.arg 1) 5 3, l.arg 2⟩
    ⟨field (l.arg 1) 12 1, field (l.arg 1) 8 3, l.arg 3⟩ (l.arg 4) (2 ^ field (l.arg 1) 2 3)
    (if field (l.arg 1) 0 2 = 2 then min (l.arg 5) (l.arg 4) else l.arg 4)

/-- The condition of check `k` on an argument block: what LOAD finds wrong (Table 1-4). -/
def loadCondition (l : Latched) : Nat → Prop
  | 1 => field (l.arg 1) 0 2 = 3
  | 2 => 4 ≤ field (l.arg 1) 2 3
  | 3 => 4 ≤ field (l.arg 1) 5 3
  | 4 => 4 ≤ field (l.arg 1) 8 3
  | 5 => (field (l.arg 1) 5 3 = 3 ∨ field (l.arg 1) 8 3 = 3) ∧ field (l.arg 1) 0 2 ≠ 2
  | 6 => if field (l.arg 1) 0 2 = 2 then l.arg 5 = 0 ∨ 255 < l.arg 5 else l.arg 5 ≠ 0
  | 7 => l.arg 4 = 0 ∨ 16777215 < l.arg 4
  | 8 => l.arg 2 % 2 ^ field (l.arg 1) 2 3 ≠ 0
  | 9 => l.arg 3 % 2 ^ field (l.arg 1) 2 3 ≠ 0
  | 12 => field (l.arg 6) 9 1 = 1 ∧ 64 ≤ field (l.arg 6) 0 8
  | 13 => field (l.arg 7) 0 2 = 3
  | 14 => 6 ≤ field (l.arg 7) 2 3
  | 15 => field (l.arg 7) 5 2 = 3
  | 10 => loadRange l 10
  | 11 => loadRange l 11
  | 16 => loadRange l 16
  | _ => False

theorem loadCheckFails_iff (l : Latched) (k : Nat) : LoadCheckFails l k ↔ loadCondition l k := by
  unfold loadCondition
  split
  all_goals simp_all [LoadCheckFails, RangeCheckFails, loadRange, imp_false]

/-- What a program that passes has in its fields, by their codes. -/
structure LoadedFrom (l : Latched) (q : Program) : Prop where
  mode : q.mode.value = field (l.arg 1) 0 2
  blockLength : q.mode.blockLength = l.arg 5
  block : ∀ n, q.mode = .block n → 1 ≤ n ∧ n ≤ 255
  size : q.size.value = field (l.arg 1) 2 3
  bytes : q.size.bytes = 2 ^ field (l.arg 1) 2 3
  srcStep : q.src.step.value = field (l.arg 1) 5 3
  dstStep : q.dst.step.value = field (l.arg 1) 8 3
  srcDomain : domainValue q.src.domain = field (l.arg 1) 11 1
  dstDomain : domainValue q.dst.domain = field (l.arg 1) 12 1
  srcStart : q.src.start = l.args.row 2
  dstStart : q.dst.start = l.args.row 3
  count : q.count = l.arg 4
  counted : 1 ≤ q.count ∧ q.count ≤ 16777215
  hasLink : q.link.isSome ↔ field (l.arg 6) 9 1 = 1
  link : ∀ k, q.link = some k →
    k.target.val = field (l.arg 6) 0 8 ∧ k.condition.value = field (l.arg 6) 8 1
  cls : q.cls.value = field (l.arg 7) 0 2
  readAhead : q.readAhead.value = field (l.arg 7) 2 3
  policy : q.policy.value = field (l.arg 7) 5 2

/-- The outcome of the checks: the first that fails, or the program. -/
def LoadOutcome (l : Latched) : Except Nat Program → Prop
  | .error k => loadCondition l k ∧ ∀ m < k, ¬loadCondition l m
  | .ok q => LoadedFrom l q ∧ ∀ k, ¬loadCondition l k

section
variable {α β : Type} {P : Except Nat β → Prop} {k : Nat}

theorem failing_bind {o : Option α} {f : α → Except Nat β} (fails : o = none → P (.error k))
    (passes : ∀ x, o = some x → P (f x)) : P (failing k o >>= f) := by
  cases o with
  | none => exact fails rfl
  | some x => exact passes x rfl

theorem must_bind {b : Bool} {f : Unit → Except Nat β} (fails : b = false → P (.error k))
    (passes : b = true → P (f ())) : P (must k b >>= f) := by
  cases b with
  | false => exact fails rfl
  | true => exact passes rfl

/-- One more check passed. -/
theorem passed_succ {Q : Nat → Prop} (passed : ∀ m < k, ¬Q m) (this : ¬Q k) : ∀ m < k + 1, ¬Q m := by
  intro m hm
  obtain below | rfl := Nat.lt_succ_iff_lt_or_eq.1 hm
  · exact passed m below
  · exact this

end

theorem loadProgram_outcome (l : Latched) : LoadOutcome l (loadProgram l.args) := by
  have row (i : Fin 8) : (l.args.row i).toNat = l.arg i := rfl
  have code (i : Fin 8) (lo n : Nat) : bits (l.args.row i) lo n = field (l.arg i) lo n :=
    bits_eq_field _ lo n
  have max : Config.countMax = 16777215 := rfl
  unfold loadProgram
  simp only [code, row]
  have p0 : ∀ m < 1, ¬loadCondition l m := fun m hm => by
    obtain rfl : m = 0 := by omega
    simp [loadCondition]
  refine failing_bind (fun none => ⟨modeCode_eq_none none (field_lt _ 0 2), p0⟩) fun m modeIs => ?_
  have mode := modeCode_eq_some modeIs
  have p1 := passed_succ p0 (k := 1) (show ¬field (l.arg 1) 0 2 = 3 by rw [← mode]; cases m <;> decide)
  refine failing_bind (fun none => ⟨sizeCode_eq_none none, p1⟩) fun size sizeIs => ?_
  obtain ⟨sizeLt, bytes, sizeValue⟩ := sizeCode_eq_some sizeIs
  have p2 := passed_succ p1 (k := 2) (Nat.not_le.2 sizeLt)
  refine failing_bind (fun none => ⟨stepCode_eq_none none, p2⟩) fun ss ssIs => ?_
  obtain ⟨ssLt, ssValue⟩ := stepCode_eq_some ssIs
  have p3 := passed_succ p2 (k := 3) (Nat.not_le.2 ssLt)
  refine failing_bind (fun none => ⟨stepCode_eq_none none, p3⟩) fun ds dsIs => ?_
  obtain ⟨dsLt, dsValue⟩ := stepCode_eq_some dsIs
  have p4 := passed_succ p3 (k := 4) (Nat.not_le.2 dsLt)
  have rewinds : ((ss == .incrementRewind || ds == .incrementRewind) && m != .block) = true ↔
      loadCondition l 5 := by
    change _ ↔ (field (l.arg 1) 5 3 = 3 ∨ field (l.arg 1) 8 3 = 3) ∧ field (l.arg 1) 0 2 ≠ 2
    rw [← ssValue, ← dsValue, ← mode]
    cases ss <;> cases ds <;> cases m <;> decide
  refine must_bind (fun fails => ⟨rewinds.1 (Bool.not_eq_eq_eq_not.1 fails), p4⟩) fun pass5 => ?_
  have p5 := passed_succ p4 (k := 5) (fun c => by simp [rewinds.2 c] at pass5)
  refine failing_bind (fun none => ⟨?_, p5⟩) fun mo moIs => ?_
  · have fails := modeOf_eq_none none
    rwa [mode] at fails
  obtain ⟨moValue, moLength, noBlock, isBlock, inRange⟩ := modeOf_eq_some moIs
  have p6 := passed_succ p5 (k := 6) (by
    change ¬if field (l.arg 1) 0 2 = 2 then l.arg 5 = 0 ∨ 255 < l.arg 5 else l.arg 5 ≠ 0
    rw [← mode]
    cases m <;> simp [ModeCode.value] at noBlock isBlock ⊢ <;> omega)
  refine must_bind (fun fails => ⟨?_, p6⟩) fun pass7 => ?_
  · change l.arg 4 = 0 ∨ 16777215 < l.arg 4
    simp only [Bool.and_eq_false_iff, decide_eq_false_iff_not] at fails
    omega
  have counted : 1 ≤ l.arg 4 ∧ l.arg 4 ≤ 16777215 := by
    simpa only [Bool.and_eq_true, decide_eq_true_eq, max] using pass7
  have p7 := passed_succ p6 (k := 7) (show ¬(l.arg 4 = 0 ∨ 16777215 < l.arg 4) by omega)
  simp only [bytes]
  refine must_bind (fun fails => ⟨by simpa [loadCondition] using fails, p7⟩) fun pass8 => ?_
  have p8 := passed_succ p7 (k := 8) (by simpa [loadCondition] using pass8)
  refine must_bind (fun fails => ⟨by simpa [loadCondition] using fails, p8⟩) fun pass9 => ?_
  have p9 := passed_succ p8 (k := 9) (by simpa [loadCondition] using pass9)
  have span : blockSpan mo (l.arg 4) =
      if field (l.arg 1) 0 2 = 2 then min (l.arg 5) (l.arg 4) else l.arg 4 := by
    rw [blockSpan_eq, moValue, moLength, mode]
  simp only [byteRange_eq, span, ssValue, dsValue, row]
  refine must_bind (fun fails => ⟨.inl ⟨rfl, fits_eq_false.1 fails⟩, p9⟩) fun pass10 => ?_
  have p10 := passed_succ p9 (k := 10) (fun c => by
    obtain ⟨-, c⟩ | ⟨c, -⟩ | ⟨c, -⟩ := c
    · rw [fits_eq_false.2 c] at pass10
      cases pass10
    · cases c
    · cases c)
  refine must_bind (fun fails => ⟨.inr (.inl ⟨rfl, fits_eq_false.1 fails⟩), p10⟩) fun pass11 => ?_
  have p11 := passed_succ p10 (k := 11) (fun c => by
    obtain ⟨c, -⟩ | ⟨-, c⟩ | ⟨c, -⟩ := c
    · cases c
    · rw [fits_eq_false.2 c] at pass11
      cases pass11
    · cases c)
  refine failing_bind (fun none => ⟨linkArg_eq_none none, p11⟩) fun link linkIs => ?_
  obtain ⟨linkPass, hasLink, linkFields⟩ := linkArg_eq_some linkIs
  have p12 := passed_succ p11 (k := 12) linkPass
  refine failing_bind (fun none => ⟨classCode_eq_none none (field_lt _ 0 2), p12⟩) fun cls clsIs => ?_
  obtain ⟨clsLt, clsValue⟩ := classCode_eq_some clsIs
  have p13 := passed_succ p12 (k := 13) (fun c : field (l.arg 7) 0 2 = 3 => by omega)
  refine failing_bind (fun none => ⟨readAheadCode_eq_none none, p13⟩) fun ra raIs => ?_
  obtain ⟨raLt, raValue⟩ := readAheadCode_eq_some raIs
  have p14 := passed_succ p13 (k := 14) (Nat.not_le.2 raLt)
  refine failing_bind (fun none => ⟨policyCode_eq_none none (field_lt _ 5 2), p14⟩) fun policy policyIs => ?_
  obtain ⟨policyLt, policyValue⟩ := policyCode_eq_some policyIs
  have p15 := passed_succ p14 (k := 15) (fun c : field (l.arg 7) 5 2 = 3 => by omega)
  have domains (n : Nat) := domainValue_domainBit (field_lt (l.arg 1) n 1)
  refine must_bind (fun fails => ⟨?_, p15⟩) fun pass16 => ?_
  · obtain ⟨domain, src, dst, lo, hi⟩ := (overlaps_iff _ _ _ _).1 (Bool.not_eq_eq_eq_not.1 fails)
    simp only [domains, ssValue, dsValue] at domain src dst
    exact .inr (.inr ⟨rfl, domain, src, dst, lo, hi⟩)
  have p16 := passed_succ p15 (k := 16) (fun c => by
    obtain ⟨c, -⟩ | ⟨c, -⟩ | ⟨-, domain, src, dst, lo, hi⟩ := c
    · cases c
    · cases c
    · rw [(overlaps_iff _ _ _ _).2 ⟨?_, ?_, ?_, lo, hi⟩] at pass16
      · cases pass16
      · simpa only [domains] using domain
      · simpa only [ssValue] using src
      · simpa only [dsValue] using dst)
  refine ⟨?_, fun k => ?_⟩
  · exact {
      mode := moValue.trans mode
      blockLength := moLength
      block := inRange
      size := sizeValue
      bytes := bytes
      srcStep := ssValue
      dstStep := dsValue
      srcDomain := domains 11
      dstDomain := domains 12
      srcStart := rfl
      dstStart := rfl
      count := rfl
      counted := counted
      hasLink := hasLink
      link := linkFields
      cls := clsValue
      readAhead := raValue
      policy := policyValue }
  · by_cases listed : k < 17
    · exact p16 k listed
    · intro c
      unfold loadCondition at c
      split at c <;> omega

end Sys2Proof.Machine
end

section
/-! PROOFS. Units under way: which channels engines serve, what the reports under way say of them, and the
elements remaining (R1, R51, R60, R61, R72). Of an engine only the channel it serves, the unit's elements
and those confirmed matter here. -/

namespace Sys2Proof.Machine

/-! ### What the conditions see of an engine -/

/-- Channel, elements and confirmed elements of a unit. -/
structure UnitKey where
  channel : ChannelNo
  elements : Nat
  confirmed : Nat

def Work.key (w : Work) : UnitKey := ⟨w.channel, w.elements, w.confirmed⟩

/-- The unit of an engine that is not IDLE. -/
def State.unitKey (s : State) (e : EngineNo) : Option UnitKey := (s.engine e).unit.map Work.key

/-- A unit is under way for the channel, at an engine or in a report. -/
def Channel.busy (c : Channel) : Prop := c.state ∈ [ChannelState.running, .stopping]

/-- A program and its progress are in range, with an element remaining where the channel's state or
after-state asks one (R1, Table 1-1). -/
structure Channel.UnitOk (c : Channel) : Prop where
  program : ∀ ld, c.loaded = some ld →
    ld.remaining ≤ ld.program.count ∧ ld.program.count ≤ 16777215 ∧
      ∀ n, ld.program.mode = .block n → 1 ≤ n ∧ n ≤ 255
  remaining : c.state ∈ [ChannelState.ready, .running, .stopping, .faulted] → c.remains 1
  parked : c.afterState ∈ [some AfterState.ready, some .faulted] → c.remains 1

/-- The conditions on units, in the terms they depend on: the records, the engines' units and the reports
under way. -/
structure UnitsAgree (c : ChannelNo → Channel) (u : EngineNo → Option UnitKey)
    (rs : List EngineReport) : Prop where
  records : ∀ ch, (c ch).UnitOk
  serving : ∀ e k, u e = some k →
    (c k.channel).busy ∧ k.confirmed < k.elements ∧ (c k.channel).remains k.elements
  servedOnce : ∀ e f k x, u e = some k → u f = some x → k.channel = x.channel → e = f
  ended : ∀ r ∈ rs, r.body.ends = true →
    (c r.channel).busy ∧ ∀ e k, u e = some k → k.channel ≠ r.channel
  endedOnce : rs.Pairwise fun x y =>
    x.body.ends = true → y.body.ends = true → x.channel ≠ y.channel
  unitEnds : ∀ ch r o, ⟨ch, .unitEnd r o⟩ ∈ rs → (c ch).remains r.done
  stops : ∀ ch r b, ⟨ch, .stop r b⟩ ∈ rs → (c ch).remains (r.done + 1)

theorem unitsSound_iff {s : State} :
    s.UnitsSound ↔ UnitsAgree s.channel s.unitKey s.wires.reports := by
  have key {e : EngineNo} {k : UnitKey} :
      s.unitKey e = some k ↔ ∃ w, (s.engine e).unit = some w ∧ w.key = k := Option.map_eq_some_iff
  constructor
  · intro ⟨program, remaining, parked, serving, servedOnce, ended, endedOnce, unitEnds, stops⟩
    refine ⟨fun ch => ⟨program ch, remaining ch, parked ch⟩, fun e k h => ?_, fun e f k x h h' => ?_,
      fun r hr ends => ⟨(ended r hr ends).1, fun e k h => ?_⟩, endedOnce, unitEnds, stops⟩
    · obtain ⟨w, unit, rfl⟩ := key.1 h
      exact serving e w unit
    · obtain ⟨w, unit, rfl⟩ := key.1 h
      obtain ⟨v, unit', rfl⟩ := key.1 h'
      exact servedOnce e f w v unit unit'
    · obtain ⟨w, unit, rfl⟩ := key.1 h
      exact (ended r hr ends).2 e w unit
  · intro ⟨records, serving, servedOnce, ended, endedOnce, unitEnds, stops⟩
    exact ⟨fun ch => (records ch).program, fun ch => (records ch).remaining, fun ch => (records ch).parked,
      fun e w unit => serving e w.key (key.2 ⟨w, unit, rfl⟩),
      fun e f w v unit unit' => servedOnce e f w.key v.key (key.2 ⟨w, unit, rfl⟩) (key.2 ⟨v, unit', rfl⟩),
      fun r hr ends => ⟨(ended r hr ends).1, fun e w unit => (ended r hr ends).2 e w.key
        (key.2 ⟨w, unit, rfl⟩)⟩, endedOnce, unitEnds, stops⟩

theorem Channel.remains_mono {c : Channel} {m n : Nat} (h : c.remains n) (le : m ≤ n) : c.remains m :=
  let ⟨ld, loaded, enough⟩ := h
  ⟨ld, loaded, le.trans enough⟩

/-- No engine serves the channel and no report under way ends a unit of it. -/
def Unserved (u : EngineNo → Option UnitKey) (rs : List EngineReport) (ch : ChannelNo) : Prop :=
  (∀ e k, u e = some k → k.channel ≠ ch) ∧ ∀ r ∈ rs, r.body.ends = true → r.channel ≠ ch

namespace UnitsAgree

variable {c d : ChannelNo → Channel} {u v : EngineNo → Option UnitKey} {rs qs : List EngineReport}

theorem unserved (h : UnitsAgree c u rs) {ch : ChannelNo} (idle : ¬(c ch).busy) : Unserved u rs ch :=
  ⟨fun e k serves here => idle (here ▸ (h.serving e k serves).1),
    fun r hr ends here => idle (here ▸ (h.ended r hr ends).1)⟩

/-! ### Reports -/

theorem sublist (h : UnitsAgree c u rs) (sub : qs.Sublist rs) : UnitsAgree c u qs where
  records := h.records
  serving := h.serving
  servedOnce := h.servedOnce
  ended r hr := h.ended r (sub.subset hr)
  endedOnce := h.endedOnce.sublist sub
  unitEnds ch r o hr := h.unitEnds ch r o (sub.subset hr)
  stops ch r b hr := h.stops ch r b (sub.subset hr)

/-- The message that a channel has faulted ends no unit. -/
theorem faulted (h : UnitsAgree c u rs) (ch : ChannelNo) : UnitsAgree c u (rs ++ [⟨ch, .faulted⟩]) where
  records := h.records
  serving := h.serving
  servedOnce := h.servedOnce
  ended r hr ends := by
    obtain old | new := List.mem_append.1 hr
    · exact h.ended r old ends
    · rw [List.mem_singleton.1 new] at ends
      cases ends
  endedOnce := by
    refine List.pairwise_append.2 ⟨h.endedOnce, by simp, fun x _ y hy _ ends => ?_⟩
    rw [List.mem_singleton.1 hy] at ends
    cases ends
  unitEnds x r o hr := by
    obtain old | new := List.mem_append.1 hr
    · exact h.unitEnds x r o old
    · cases List.mem_singleton.1 new
  stops x r b hr := by
    obtain old | new := List.mem_append.1 hr
    · exact h.stops x r b old
    · cases List.mem_singleton.1 new

/-! ### Records -/

/-- The records of the channels that units depend on stay, and one that nothing under way names is
written. -/
theorem write (h : UnitsAgree c u rs) {ch : ChannelNo} (free : Unserved u rs ch)
    (others : ∀ x, ch ≠ x → (d x).state = (c x).state ∧ (d x).loaded = (c x).loaded ∧
      (d x).afterState = (c x).afterState) (ok : (d ch).UnitOk) : UnitsAgree d u rs := by
  obtain ⟨records, serving, servedOnce, ended, endedOnce, unitEnds, stops⟩ := h
  have remains {x : ChannelNo} {n : Nat} (other : ch ≠ x) (r : (c x).remains n) : (d x).remains n := by
    unfold Channel.remains
    rwa [(others x other).2.1]
  have busy {x : ChannelNo} (other : ch ≠ x) (b : (c x).busy) : (d x).busy := by
    unfold Channel.busy
    rwa [(others x other).1]
  refine ⟨fun x => ?_, fun e k serves => ?_, servedOnce, fun r hr ends => ?_, endedOnce, fun x r o hr => ?_,
    fun x r b hr => ?_⟩
  · by_cases here : ch = x
    · exact here ▸ ok
    · obtain ⟨state, loaded, after⟩ := others x here
      obtain ⟨program, remaining, parked⟩ := records x
      exact ⟨by rwa [loaded], by simpa only [state, Channel.remains, loaded] using remaining,
        by simpa only [after, Channel.remains, loaded] using parked⟩
  · have other := (free.1 e k serves).symm
    obtain ⟨b, room, r⟩ := serving e k serves
    exact ⟨busy other b, room, remains other r⟩
  · obtain ⟨b, apart⟩ := ended r hr ends
    exact ⟨busy (free.2 r hr ends).symm b, apart⟩
  · exact remains (free.2 _ hr rfl).symm (unitEnds x r o hr)
  · exact remains (free.2 _ hr rfl).symm (stops x r b hr)

/-- No record changes in what units depend on. -/
theorem congr (h : UnitsAgree c u rs)
    (same : ∀ x, (d x).state = (c x).state ∧ (d x).loaded = (c x).loaded ∧
      (d x).afterState = (c x).afterState) : UnitsAgree d u rs := by
  obtain ⟨records, serving, servedOnce, ended, endedOnce, unitEnds, stops⟩ := h
  have remains (x : ChannelNo) (n : Nat) : (d x).remains n ↔ (c x).remains n := by
    rw [Channel.remains, Channel.remains, (same x).2.1]
  have busy (x : ChannelNo) : (d x).busy ↔ (c x).busy := by
    rw [Channel.busy, Channel.busy, (same x).1]
  refine ⟨fun x => ?_, ?_, servedOnce, ?_, endedOnce, ?_, ?_⟩
  · obtain ⟨program, remaining, parked⟩ := records x
    obtain ⟨state, loaded, after⟩ := same x
    exact ⟨by rwa [loaded], by simpa only [state, remains] using remaining,
      by simpa only [after, remains] using parked⟩
  · simpa only [busy, remains] using serving
  · simpa only [busy] using ended
  · simpa only [remains] using unitEnds
  · simpa only [remains] using stops

/-- A RUNNING channel becomes STOPPING, its unit as it was. -/
theorem stopping (h : UnitsAgree c u rs) {ch : ChannelNo} (running : (c ch).state = .running)
    (others : ∀ x, ch ≠ x → d x = c x) (record : d ch = { c ch with state := .stopping }) :
    UnitsAgree d u rs := by
  obtain ⟨records, serving, servedOnce, ended, endedOnce, unitEnds, stops⟩ := h
  have loaded (x : ChannelNo) : (d x).loaded = (c x).loaded := by
    by_cases here : ch = x
    · rw [← here, record]
    · rw [others x here]
  have remains (x : ChannelNo) (n : Nat) : (d x).remains n ↔ (c x).remains n := by
    rw [Channel.remains, Channel.remains, loaded]
  have busy {x : ChannelNo} (b : (c x).busy) : (d x).busy := by
    by_cases here : ch = x
    · rw [← here, record]
      simp [Channel.busy]
    · rwa [others x here]
  refine ⟨fun x => ?_, fun e k serves => ?_, servedOnce, fun r hr ends => ?_, endedOnce, ?_, ?_⟩
  · by_cases here : ch = x
    · subst here
      obtain ⟨program, remaining, parked⟩ := records ch
      refine ⟨by rwa [loaded], fun _ => (remains ch 1).2 (remaining (by simp [running])), ?_⟩
      rw [record]
      exact fun after => (parked after)
    · rw [others x here]
      exact records x
  · obtain ⟨b, room, r⟩ := serving e k serves
    exact ⟨busy b, room, (remains _ _).2 r⟩
  · obtain ⟨b, apart⟩ := ended r hr ends
    exact ⟨busy b, apart⟩
  · simpa only [remains] using unitEnds
  · simpa only [remains] using stops

/-! ### Engines -/

/-- Each unit goes on at its engine, unfinished. -/
theorem progress (h : UnitsAgree c u rs)
    (each : ∀ e k, v e = some k → ∃ j, u e = some j ∧ k.channel = j.channel ∧ k.elements = j.elements ∧
      k.confirmed < k.elements) : UnitsAgree c v rs where
  records := h.records
  serving e k serves := by
    obtain ⟨j, was, channel, elements, unfinished⟩ := each e k serves
    obtain ⟨busy, -, remains⟩ := h.serving e j was
    rw [channel, elements]
    exact ⟨busy, elements ▸ unfinished, remains⟩
  servedOnce e f k x serves serves' same := by
    obtain ⟨j, was, channel, -⟩ := each e k serves
    obtain ⟨i, was', channel', -⟩ := each f x serves'
    exact h.servedOnce e f j i was was' (channel ▸ channel' ▸ same)
  ended r hr ends := by
    obtain ⟨busy, apart⟩ := h.ended r hr ends
    refine ⟨busy, fun e k serves => ?_⟩
    obtain ⟨j, was, channel, -⟩ := each e k serves
    exact channel ▸ apart e j was
  endedOnce := h.endedOnce
  unitEnds := h.unitEnds
  stops := h.stops

/-- A unit or a stop ends in a report, and its engine is IDLE. -/
theorem finish (h : UnitsAgree c u rs) {e : EngineNo} {k : UnitKey} (serves : u e = some k)
    {b : ReportBody} (idle : v e = none) (others : ∀ f, e ≠ f → v f = u f)
    (unitEnd : ∀ r o, b = .unitEnd r o → (c k.channel).remains r.done)
    (stop : ∀ r x, b = .stop r x → (c k.channel).remains (r.done + 1)) :
    UnitsAgree c v (rs ++ [⟨k.channel, b⟩]) := by
  obtain ⟨records, serving, servedOnce, ended, endedOnce, unitEnds, stops⟩ := h
  have old {f : EngineNo} {j : UnitKey} (here : v f = some j) : e ≠ f ∧ u f = some j := by
    have apart : e ≠ f := by
      rintro rfl
      rw [idle] at here
      cases here
    exact ⟨apart, (others f apart).symm.trans here⟩
  refine ⟨records, fun f j here => serving f j (old here).2,
    fun f g j x here there => servedOnce f g j x (old here).2 (old there).2, fun r hr ends => ?_, ?_,
    fun ch r o hr => ?_, fun ch r x hr => ?_⟩
  · obtain before | new := List.mem_append.1 hr
    · obtain ⟨busy, apart⟩ := ended r before ends
      exact ⟨busy, fun f j here => apart f j (old here).2⟩
    · rw [List.mem_singleton.1 new]
      refine ⟨(serving e k serves).1, fun f j here same => ?_⟩
      exact (old here).1 (servedOnce e f k j serves (old here).2 same.symm)
  · refine List.pairwise_append.2 ⟨endedOnce, by simp, fun x hx y hy ends _ => ?_⟩
    rw [List.mem_singleton.1 hy]
    exact ((ended x hx ends).2 e k serves).symm
  · obtain before | new := List.mem_append.1 hr
    · exact unitEnds ch r o before
    · cases List.mem_singleton.1 new
      exact unitEnd r o rfl
  · obtain before | new := List.mem_append.1 hr
    · exact stops ch r x before
    · cases List.mem_singleton.1 new
      exact stop r x rfl

/-- An IDLE engine takes a READY channel, which becomes RUNNING. -/
theorem start (h : UnitsAgree c u rs) {e : EngineNo} {ch : ChannelNo} {k : UnitKey}
    (ready : ¬(c ch).busy) (takes : v e = some k) (channel : k.channel = ch)
    (unfinished : k.confirmed < k.elements) (remains : (d ch).remains k.elements)
    (others : ∀ f, e ≠ f → v f = u f)
    (records : ∀ x, ch ≠ x → (d x).state = (c x).state ∧ (d x).loaded = (c x).loaded ∧
      (d x).afterState = (c x).afterState)
    (running : (d ch).busy) (ok : (d ch).UnitOk) : UnitsAgree d v rs := by
  have free := h.unserved ready
  obtain ⟨recordsOk, serving, servedOnce, ended, endedOnce, unitEnds, stops⟩ := h.write free records ok
  have cases_ {f : EngineNo} {j : UnitKey} (here : v f = some j) :
      (e = f ∧ j = k) ∨ (e ≠ f ∧ u f = some j) := by
    by_cases same : e = f
    · subst same
      exact .inl ⟨rfl, Option.some.inj (here.symm.trans takes)⟩
    · exact .inr ⟨same, (others f same).symm.trans here⟩
  refine ⟨recordsOk, fun f j here => ?_, fun f g j x here there same => ?_, fun r hr ends => ?_, endedOnce,
    unitEnds, stops⟩
  · obtain ⟨rfl, rfl⟩ | ⟨-, old⟩ := cases_ here
    · subst channel
      exact ⟨running, unfinished, remains⟩
    · exact serving f j old
  · obtain ⟨rfl, rfl⟩ | ⟨-, old⟩ := cases_ here <;> obtain ⟨rfl, rfl⟩ | ⟨-, old'⟩ := cases_ there
    · rfl
    · exact absurd (same.symm.trans channel) (free.1 g x old')
    · exact absurd (same.trans channel) (free.1 f j old)
    · exact servedOnce f g j x old old' same
  · obtain ⟨busy, apart⟩ := ended r hr ends
    refine ⟨busy, fun f j here => ?_⟩
    obtain ⟨rfl, rfl⟩ | ⟨-, old⟩ := cases_ here
    · exact channel ▸ (free.2 r hr ends).symm
    · exact apart f j old

end UnitsAgree

end Sys2Proof.Machine
end

section
/-! PROOFS. Every move of a channel record keeps units under way in step (R1, R16, R22, R51, R72). -/

namespace Sys2Proof.Machine

/-! ### The fields of a record that units depend on -/

/-- State, program with progress, and after-state. -/
def Channel.unitPart (c : Channel) : ChannelState × Option Loaded × Option AfterState :=
  (c.state, c.loaded, c.afterState)

theorem Channel.unitPart_eq {c d : Channel} :
    d.unitPart = c.unitPart ↔
      d.state = c.state ∧ d.loaded = c.loaded ∧ d.afterState = c.afterState := by
  simp [unitPart]

namespace Channel

variable {c d : Channel}

theorem UnitOk.congr (h : c.UnitOk) (same : d.unitPart = c.unitPart) : d.UnitOk := by
  obtain ⟨state, loaded, after⟩ := unitPart_eq.1 same
  obtain ⟨program, remaining, parked⟩ := h
  exact ⟨by rwa [loaded], by simpa only [state, remains, loaded] using remaining,
    by simpa only [after, remains, loaded] using parked⟩

/-- The program and its progress stay, and the new state and after-state find an element remaining where
they ask one. -/
theorem UnitOk.change (h : c.UnitOk) (loaded : d.loaded = c.loaded)
    (remaining : d.state ∈ [ChannelState.ready, .running, .stopping, .faulted] → c.remains 1)
    (parked : d.afterState ∈ [some AfterState.ready, some .faulted] → c.remains 1) : d.UnitOk := by
  have remains : d.remains 1 ↔ c.remains 1 := by rw [Channel.remains, Channel.remains, loaded]
  exact ⟨by rw [loaded]; exact h.program, fun st => remains.2 (remaining st), fun st => remains.2 (parked st)⟩

theorem unitOk_free : Channel.free.UnitOk := by
  constructor <;> simp [free]

theorem unitOk_claimed (p : Port) : { free with owner := some p, state := .idle }.UnitOk := by
  constructor <;> simp [free]

theorem not_busy_of_state {st : ChannelState} (at_ : c.state = st) (rest : st ∉ [ChannelState.running, .stopping]) :
    ¬c.busy := by
  unfold busy
  rwa [at_]

/-- A program that passes the checks of LOAD has an element (R7). -/
theorem unitOk_withProgram {a : Table Word 8} {prog : Program} (passes : loadProgram a = .ok prog)
    (after : c.afterState = none) : (c.withProgram prog).UnitOk := by
  have outcome := loadProgram_outcome ⟨0, 0, a⟩
  rw [show loadProgram (Latched.mk 0 0 a).args = .ok prog from passes] at outcome
  obtain ⟨low, high⟩ := outcome.1.counted
  have block := outcome.1.block
  refine ⟨?_, fun _ => ⟨_, rfl, low⟩, by simp [withProgram, after]⟩
  rintro ld ⟨⟩
  exact ⟨le_rfl, high, block⟩

end Channel

section
variable {s t : State}

theorem unitKey_of_same (h : t.engines = s.engines) : t.unitKey = s.unitKey := by
  funext e
  rw [State.unitKey, State.unitKey, engine_of_same h]

theorem unitsSound_of_parts {c : ChannelNo → Channel}
    (h : UnitsAgree c s.unitKey s.wires.reports) (same : ∀ x, (t.channel x).unitPart = (c x).unitPart)
    (engines : t.engines = s.engines) (reports : t.wires.reports = s.wires.reports) : t.UnitsSound := by
  rw [unitsSound_iff, unitKey_of_same engines, reports]
  exact h.congr fun x => Channel.unitPart_eq.1 (same x)

/-- No record, engine or report changes in what units depend on. -/
theorem State.UnitsSound.congr (h : s.UnitsSound)
    (same : ∀ x, (t.channel x).unitPart = (s.channel x).unitPart) (engines : t.engines = s.engines)
    (reports : t.wires.reports = s.wires.reports) : t.UnitsSound :=
  unitsSound_of_parts (unitsSound_iff.1 h) same engines reports

theorem State.UnitsSound.of_same (h : s.UnitsSound) (channels : t.channels = s.channels)
    (engines : t.engines = s.engines) (reports : t.wires.reports = s.wires.reports) : t.UnitsSound :=
  h.congr (fun x => by rw [channel_of_same channels]) engines reports

/-- One record changes, of a channel without a unit under way. -/
theorem unitsSound_write {ch : ChannelNo} (h : UnitsAgree s.channel s.unitKey s.wires.reports)
    (free : Unserved s.unitKey s.wires.reports ch)
    (others : ∀ x, ch ≠ x → (t.channel x).unitPart = (s.channel x).unitPart)
    (engines : t.engines = s.engines) (reports : t.wires.reports = s.wires.reports)
    (ok : (t.channel ch).UnitOk) : t.UnitsSound :=
  unitsSound_of_parts (h.write free (fun x other => Channel.unitPart_eq.1 (others x other)) ok)
    (fun _ => rfl) engines reports

theorem State.UnitsSound.writeChannel (h : s.UnitsSound) {ch : ChannelNo} {c : Channel}
    (idle : ¬(s.channel ch).busy) (ok : c.UnitOk) : (s.writeChannel ch c).UnitsSound := by
  have agree := unitsSound_iff.1 h
  refine unitsSound_write agree (agree.unserved idle) (fun x other => ?_) (by simp) (by simp) (by simpa)
  rw [channel_writeChannel, if_neg other]

theorem writeChannel_unitPart {ch : ChannelNo} {c : Channel}
    (same : c.unitPart = (s.channel ch).unitPart) (x : ChannelNo) :
    ((s.writeChannel ch c).channel x).unitPart = (s.channel x).unitPart := by
  rw [channel_writeChannel]
  split
  · next here => rw [same, here]
  · rfl

/-- The report taken was the one that ended the unit of its channel. -/
theorem takeFirst_eq_some {α : Type} {f : α → Bool} {xs ys : List α} {y : α}
    (h : takeFirst f xs = some (y, ys)) :
    f y = true ∧ ∃ before after, xs = before ++ y :: after ∧ ys = before ++ after := by
  induction xs generalizing y ys with
  | nil => cases h
  | cons x xs ih =>
    unfold takeFirst at h
    split at h
    · next picks =>
      cases h
      exact ⟨picks, [], xs, rfl, rfl⟩
    · split at h
      · next rest =>
        cases h
        obtain ⟨picks, before, after, rfl, rfl⟩ := ih rest
        exact ⟨picks, x :: before, after, rfl, rfl⟩
      · cases h

theorem UnitsAgree.taken {c : ChannelNo → Channel} {u : EngineNo → Option UnitKey} {ch : ChannelNo}
    {b : ReportBody} {before after : List EngineReport}
    (h : UnitsAgree c u (before ++ ⟨ch, b⟩ :: after)) (ends : b.ends = true) :
    UnitsAgree c u (before ++ after) ∧ Unserved u (before ++ after) ch := by
  refine ⟨h.sublist (by simp), (h.ended ⟨ch, b⟩ (by simp) ends).2, fun r hr ends' => ?_⟩
  obtain ⟨-, later, cross⟩ := List.pairwise_append.1 h.endedOnce
  obtain early | late := List.mem_append.1 hr
  · exact cross r early ⟨ch, b⟩ (by simp) ends' ends
  · exact ((List.pairwise_cons.1 later).1 r late ends ends').symm

/-- What the Channel Table knows when it takes the report that ends a unit: nothing else is under way for
the channel. -/
theorem takeReport_unserved {ch : ChannelNo} {b : ReportBody} (h : s.UnitsSound)
    (report : s.takeReport ch = some (b, t)) (ends : b.ends = true) :
    UnitsAgree t.channel t.unitKey t.wires.reports ∧ Unserved t.unitKey t.wires.reports ch ∧
      ⟨ch, b⟩ ∈ s.wires.reports := by
  unfold State.takeReport at report
  split at report
  · next r rest found =>
    cases report
    obtain ⟨picks, before, after, whole, rfl⟩ := takeFirst_eq_some found
    obtain rfl := of_decide_eq_true picks
    have agree := unitsSound_iff.1 h
    rw [whole] at agree
    obtain ⟨now, free⟩ := agree.taken ends
    exact ⟨now, free, by simp [whole]⟩
  · cases report

/-! ### The end of a unit -/

theorem enterNext_unitPart (s : State) (ch : ChannelNo) (next : AfterState) (x : ChannelNo) :
    ((s.enterNext ch next).channel x).unitPart =
      if ch = x then ((s.channel ch).settled next).unitPart else (s.channel x).unitPart := by
  unfold State.enterNext
  rw [channelAble_keeps _ Channel.unitPart (fun _ _ => rfl), channel_writeChannel, apply_ite Channel.unitPart]

theorem park_unitPart (s : State) (ch : ChannelNo) (p : Port) (n : ChannelNotice) (next : AfterState)
    (x : ChannelNo) :
    ((s.park ch p n next).channel x).unitPart =
      if ch = x then (.posting, (s.channel ch).loaded, some next) else (s.channel x).unitPart := by
  unfold State.park
  rw [channelAble_keeps _ Channel.unitPart (fun _ _ => rfl), channel_writeChannel, apply_ite Channel.unitPart]
  rfl

/-- The channel has its next state, or it is POSTING with that as after-state. -/
theorem concludeUnit_unitPart (s : State) (ch : ChannelNo) (notice : Option ChannelNotice)
    (next : AfterState) :
    ∃ c : Channel, (c = (s.channel ch).settled next ∨
        c = { s.channel ch with state := .posting, afterState := some next }) ∧
      ∀ x, ((s.concludeUnit ch notice next).channel x).unitPart =
        if ch = x then c.unitPart else (s.channel x).unitPart := by
  obtain e | ⟨p, n, -, -, ⟨-, e⟩ | e⟩ := concludeUnit_cases s ch notice next <;> rw [e]
  · exact ⟨_, .inl rfl, enterNext_unitPart s ch next⟩
  · exact ⟨_, .inl rfl, enterNext_unitPart _ ch next⟩
  · exact ⟨_, .inr rfl, park_unitPart s ch p n next⟩

theorem Channel.UnitOk.concluded {c d : Channel} (h : ∀ ld, c.loaded = some ld →
      ld.remaining ≤ ld.program.count ∧ ld.program.count ≤ 16777215 ∧
        ∀ n, ld.program.mode = .block n → 1 ≤ n ∧ n ≤ 255)
    {next : AfterState} (needs : next ≠ .idle → c.remains 1)
    (now : d = c.settled next ∨ d = { c with state := .posting, afterState := some next }) : d.UnitOk := by
  obtain rfl | rfl := now
  · cases next with
    | idle => exact ⟨h, by simp [settled], by simp [settled]⟩
    | ready | faulted => exact ⟨h, fun _ => needs (by simp), by simp [settled]⟩
  · refine ⟨h, by simp, fun parked => needs ?_⟩
    rintro rfl
    simp at parked

theorem unitsSound_concludeUnit {ch : ChannelNo} (h : UnitsAgree s.channel s.unitKey s.wires.reports)
    (free : Unserved s.unitKey s.wires.reports ch)
    (others : ∀ x, ch ≠ x → (t.channel x).unitPart = (s.channel x).unitPart)
    (engines : t.engines = s.engines) (reports : t.wires.reports = s.wires.reports)
    (program : ∀ ld, (t.channel ch).loaded = some ld →
      ld.remaining ≤ ld.program.count ∧ ld.program.count ≤ 16777215 ∧
        ∀ n, ld.program.mode = .block n → 1 ≤ n ∧ n ≤ 255)
    {notice : Option ChannelNotice} {next : AfterState}
    (needs : next ≠ .idle → (t.channel ch).remains 1) : (t.concludeUnit ch notice next).UnitsSound := by
  obtain ⟨c, now, part⟩ := concludeUnit_unitPart t ch notice next
  refine unitsSound_write h free (fun x other => ?_) (by simp [engines]) (by simp [reports]) ?_
  · rw [part, if_neg other, others x other]
  · exact Channel.UnitOk.congr (.concluded program needs now) (by rw [part, if_pos rfl])

theorem advance_program {ld : Loaded} (h : ld.remaining ≤ ld.program.count ∧ ld.program.count ≤ 16777215 ∧
      ∀ n, ld.program.mode = .block n → 1 ≤ n ∧ n ≤ 255) (r : Progress) :
    (ld.advance r).remaining ≤ (ld.advance r).program.count ∧
      (ld.advance r).program.count ≤ 16777215 ∧
        ∀ n, (ld.advance r).program.mode = .block n → 1 ≤ n ∧ n ≤ 255 :=
  ⟨(Nat.sub_le _ _).trans h.1, h.2⟩

theorem unitEnd_unitsSound {ch : ChannelNo} (h : UnitsAgree s.channel s.unitKey s.wires.reports)
    (free : Unserved s.unitKey s.wires.reports ch) (r : Progress) (o : Origin) :
    (s.unitEnd ch r o).UnitsSound := by
  unfold State.unitEnd
  dsimp only
  split
  · exact unitsSound_iff.2 h
  · next ld loaded =>
    refine unitsSound_concludeUnit h free (fun x other => ?_) (by simp) (by simp) ?_ ?_
    · rw [acknowledge_fireLink_channel, channel_writeChannel, if_neg other]
    all_goals rw [acknowledge_fireLink_channel, channel_writeChannel_self]
    · rintro _ ⟨⟩
      exact advance_program ((h.records ch).program ld loaded) r
    · intro left
      refine ⟨_, rfl, Nat.pos_of_ne_zero fun none => ?_⟩
      simp [none] at left

theorem freeChannel_unitsSound {ch : ChannelNo} (h : UnitsAgree s.channel s.unitKey s.wires.reports)
    (free : Unserved s.unitKey s.wires.reports ch) : (s.freeChannel ch).UnitsSound :=
  unitsSound_write h free (fun _ other => freeChannel_keeps s Channel.unitPart (fun _ _ _ => rfl) other)
    (by simp) (by simp) (by rw [freeChannel_channel_self]; exact Channel.unitOk_free)

theorem freeStopped_unitsSound {ch : ChannelNo} (h : UnitsAgree s.channel s.unitKey s.wires.reports)
    (free : Unserved s.unitKey s.wires.reports ch) : (s.freeStopped ch).UnitsSound := by
  have freed := freeChannel_unitsSound h free
  unfold State.freeStopped
  split
  · exact freed.of_same (by simp) (by simp) (by simp)
  · exact freed

/-- A stop for a fault leaves the element that faulted (R72). -/
theorem stopUnit_unitsSound {ch : ChannelNo} (h : UnitsAgree s.channel s.unitKey s.wires.reports)
    (free : Unserved s.unitKey s.wires.reports ch) {r : Progress} {c : StopCause}
    (leaves : (∃ f, c = .fault f) → (s.channel ch).remains (r.done + 1)) :
    (s.stopUnit ch r c).UnitsSound := by
  unfold State.stopUnit
  dsimp only
  split
  · exact freeStopped_unitsSound h free
  · split
    · exact unitsSound_iff.2 h
    · next ld loaded =>
      have record : (s.returnLine ch).channel = s.channel := funext (channel_of_same (by simp))
      refine unitsSound_concludeUnit h free (fun x other => ?_) (by simp) (by simp) ?_ ?_
      · rw [channel_writeChannel, if_neg other, record]
      all_goals rw [channel_writeChannel_self]
      · rintro _ ⟨⟩
        exact advance_program ((h.records ch).program ld loaded) r
      · intro faults
        refine ⟨_, rfl, ?_⟩
        cases c with
        | abort | teardown => simp [stopNotice] at faults
        | fault f =>
          obtain ⟨x, loaded', enough⟩ := leaves ⟨f, rfl⟩
          obtain rfl := Option.some.inj (loaded.symm.trans loaded')
          exact Nat.le_sub_of_add_le' enough

/-! ### Dispatch (R51) -/

theorem Engine.reoffer_unit (g : Engine) : g.reoffer.unit = g.unit := rfl

theorem unitKey_setEngine (s : State) (e : EngineNo) (g : Engine) (f : EngineNo) :
    (s.setEngine e g).unitKey f = if e = f then g.unit.map Work.key else s.unitKey f := by
  rw [State.unitKey, engine_setEngine, apply_ite Engine.unit, apply_ite (Option.map Work.key),
    Engine.reoffer_unit]
  rfl

/-- A unit has an element, and no more than remain (section 3.1). -/
theorem unitSize_bounds {m : Mode} {n : Nat} (some_left : 1 ≤ n)
    (block : ∀ k, m = .block k → 1 ≤ k ∧ k ≤ 255) : 0 < unitSize m n ∧ unitSize m n ≤ n := by
  unfold unitSize
  split
  · omega
  · next k => have := block k rfl; omega
  · omega

theorem Channel.dispatched_unitPart (c : Channel) :
    c.dispatched.unitPart = (.running, c.loaded, c.afterState) := by
  unfold Channel.dispatched
  split <;> rfl

/-- The record and the engine after a dispatch. -/
theorem State.UnitsSound.started (h : s.UnitsSound) {e : EngineNo} {w : Work} {ld : Loaded}
    (ready : (s.channel w.channel).state = .ready) (after : (s.channel w.channel).afterState = none)
    (loaded : (s.channel w.channel).loaded = some ld)
    (unit : 0 < w.elements ∧ w.elements ≤ ld.remaining) (fresh : w.confirmed = 0)
    (channels : t.channels = s.channels.put w.channel (s.channel w.channel).dispatched)
    (engines : t.engines = (s.setEngine e { Engine.idle with phase := .running w }).engines)
    (reports : t.wires.reports = s.wires.reports) : t.UnitsSound := by
  have agree := unitsSound_iff.1 h
  have record (x : ChannelNo) :
      t.channel x = if w.channel = x then (s.channel w.channel).dispatched else s.channel x := by
    rw [← channel_setChannel]
    exact channel_of_same channels x
  have key (f : EngineNo) : t.unitKey f = if e = f then some w.key else s.unitKey f := by
    rw [unitKey_of_same engines]
    exact unitKey_setEngine s e _ f
  obtain ⟨state, loaded', after'⟩ : (t.channel w.channel).state = .running ∧
      (t.channel w.channel).loaded = some ld ∧ (t.channel w.channel).afterState = none := by
    have part := (s.channel w.channel).dispatched_unitPart
    rw [record, if_pos rfl, ← loaded, ← after]
    exact (Channel.unitPart_eq (c := { s.channel w.channel with state := .running })).1 part
  have remains : (t.channel w.channel).remains w.elements := ⟨ld, loaded', unit.2⟩
  rw [unitsSound_iff, reports]
  refine agree.start (Channel.not_busy_of_state ready (by decide)) (by rw [key, if_pos rfl]) rfl
    (fresh ▸ unit.1) remains (fun f other => by rw [key, if_neg other]) (fun x other => ?_) (by simp [Channel.busy, state]) ?_
  · rw [record, if_neg other]
    exact ⟨rfl, rfl, rfl⟩
  · refine (agree.records w.channel).change (by rw [loaded, loaded']) (fun _ => ?_) (by simp [after'])
    exact (agree.records w.channel).remaining (by simp [ready])

theorem State.UnitsSound.dispatchHead (h : s.UnitsSound) (records : s.RecordsSound) (e : EngineNo)
    {k : SchedClass} {ch : ChannelNo} {rest : List ChannelNo}
    (head : s.trigger.queue k = ch :: rest) : (s.dispatchHead e k ch rest).UnitsSound := by
  obtain ⟨channels, queues, -⟩ := records
  have ready := (Channel.eligible_iff.1 (queues.2 k ch (by simp [head])).1).1
  have after := (channels ch).outside_unit (by simp [ready])
  obtain ⟨ld, loaded, left⟩ := h.remaining ch (by simp [ready])
  obtain ⟨p, owner⟩ := Option.isSome_iff_exists.1 ((channels ch).owned (by simp [ready]))
  unfold State.dispatchHead
  simp only [owner, loaded]
  refine State.UnitsSound.congr ?_ (channelAble_keeps _ Channel.unitPart (fun _ _ => rfl) ch)
    (by simp) (by simp)
  exact h.started (e := e) (w := workOf ch p ld ((s.channel ch).dispatched.origin.getD .credit)) ready after loaded
    (unitSize_bounds left (h.program ch ld loaded).2.2) rfl (by simp; rfl)
    (by simp [State.startUnit, State.setEngine]) (by simp)

/-! ### Every move -/

theorem Move.unitsSound {rel : Bool} (m : Move rel s t) (records : s.RecordsSound) (h : s.UnitsSound) :
    t.UnitsSound := by
  have ok (ch : ChannelNo) : (s.channel ch).UnitOk := (unitsSound_iff.1 h).records ch
  cases m with
  | quiet channels _ _ _ _ engines reports =>
    have agree := unitsSound_iff.1 h
    rw [unitsSound_iff, unitKey_of_same engines, show t.channel = s.channel from funext (channel_of_same channels)]
    exact agree.sublist reports
  | claim p ch _ free =>
    exact h.writeChannel (Channel.not_busy_of_state free (by decide)) (Channel.unitOk_claimed p)
  | free ch running stopping =>
    have agree := unitsSound_iff.1 h
    exact freeChannel_unitsSound agree (agree.unserved (by simp [Channel.busy, running, stopping]))
  | load ch a prog takes passes =>
    have settled : (s.channel ch).state = .idle ∨ (s.channel ch).state = .faulted ∨
        (s.channel ch).state = .ready := by
      unfold Channel.takesLoad at takes
      split at takes <;> simp_all
    refine h.writeChannel ?_ (Channel.unitOk_withProgram passes ((records.1 ch).outside_unit ?_))
    · obtain st | st | st := settled <;> simp [Channel.busy, st]
    · obtain st | st | st := settled <;> simp [st]
  | resume ch ld faulted =>
    exact h.writeChannel (Channel.not_busy_of_state faulted (by decide))
      ((ok ch).change rfl (fun _ => (ok ch).remaining (by simp [faulted])) (ok ch).parked)
  | credit ch => exact h.congr (writeChannel_unitPart (by rfl)) (by simp) (by simp)
  | abortReady ch ready =>
    have idle := Channel.not_busy_of_state ready (by decide)
    have stays : { s.channel ch with state := .idle, credit := 0, linePending := false }.UnitOk :=
      (ok ch).change rfl (by simp) (ok ch).parked
    obtain e | ⟨l, -, -, -, e⟩ := abortReady_cases s ch
    · rw [e]
      exact h.writeChannel idle stays
    · have line : (s.setLine l { s.line l with state := .waiting }).UnitsSound := h.of_same rfl rfl rfl
      rw [e]
      exact line.writeChannel idle stays
  | stop ch running =>
    have agree := unitsSound_iff.1 h
    have wires : (s.writeChannel ch { s.channel ch with state := .stopping }).wires = s.wires := by simp
    rw [unitsSound_iff, unitKey_of_same (s := s) (by simp), wires]
    refine agree.stopping (ch := ch) running (fun x other => ?_) (by rw [channel_writeChannel_self])
    rw [channel_writeChannel, if_neg other]
  | abortPosting ch posting =>
    exact h.writeChannel (Channel.not_busy_of_state posting (by decide))
      ((ok ch).change rfl (by simp [posting]) (by simp))
  | abortFaulted ch faulted =>
    exact h.writeChannel (Channel.not_busy_of_state faulted (by decide))
      ((ok ch).change rfl (by simp) (ok ch).parked)
  | takeTrigger l =>
    exact h.congr (takeTrigger_keeps s Channel.unitPart (fun _ _ => rfl) l) (by simp) (by simp)
  | unmap l => exact h.congr (unmap_keeps s Channel.unitPart (fun _ _ _ => rfl) l) (by simp) (by simp)
  | mapLine p l ch =>
    refine h.congr (fun x => ?_) rfl rfl
    rw [channel_setChannel]
    split
    · next here => rw [← here]; rfl
    · rfl
  | line | endAck | dropFreed | place | pop | enable | clear => exact h.of_same rfl rfl rfl
  | join ch => exact h.of_same (by simp) (by simp) (by simp)
  | dispatch e k ch rest _ head => exact h.dispatchHead records e head
  | unitEnd ch r o report =>
    obtain ⟨agree, free, -⟩ := takeReport_unserved h report rfl
    exact unitEnd_unitsSound agree free r o
  | stopUnit ch r c b report body =>
    have ends : b.ends = true := by
      obtain rfl | ⟨-, o, rfl⟩ := body <;> rfl
    obtain ⟨agree, free, sent⟩ := takeReport_unserved h report ends
    obtain ⟨rest, rfl⟩ := takeReport_eq report
    refine stopUnit_unitsSound agree free ?_
    rintro ⟨f, rfl⟩
    obtain rfl | ⟨other, -⟩ := body
    · exact h.stops ch r _ sent
    · cases other
  | release p x xs ch =>
    have popped : (s.setNoticeUnit p ({ s.noticeUnit p with queue := xs }.refill).1).UnitsSound :=
      h.of_same rfl rfl rfl
    unfold State.unparkChannel
    dsimp only
    split
    · next next after =>
      have posting := (records.1 ch).after.1 (Option.isSome_iff_exists.2 ⟨_, after⟩)
      have agree := unitsSound_iff.1 popped
      refine unitsSound_write agree (agree.unserved (Channel.not_busy_of_state posting (by decide)))
        (fun x other => ?_) rfl rfl ?_
      · rw [channel_setChannel, if_neg other]
      · rw [channel_setChannel_self]
        refine .concluded (c := s.channel ch) (ok ch).program (fun stays => (ok ch).parked ?_) (.inl rfl)
        rw [show (s.channel ch).afterState = some next from after]
        cases next <;> simp at stays ⊢
    · exact popped

end

end Sys2Proof.Machine
end

section
/-! PROOFS. The Transfer Engines keep units under way in step: a response moves a unit on, its last element
ends it, and a stop ends it with an element left (R51, R60, R61, R72). -/

namespace Sys2Proof.Machine

/-! ### The pool's operations

They write the pool, and of an engine only the room given to its read. -/

section
variable {P : State → Prop} (pool : ∀ s x, P s → P (s.setPool x))
  (room : ∀ s e, P s → P (s.setEngine e (s.engine e).givenRoom)) {s : State} (e : EngineNo)
include pool room

theorem giveLine_keeps (n : StagingLine) (h : P s) : P (s.giveLine e n) := room _ e (pool _ _ h)

theorem requestLine_keeps (h : P s) : P (s.requestLine e) := by
  unfold State.requestLine
  dsimp only
  split
  · exact pool _ _ h
  · split
    · exact giveLine_keeps pool room e _ h
    · split
      · split
        · exact giveLine_keeps pool room e _ (pool _ _ h)
        · exact pool _ _ h
      · exact pool _ _ h

theorem handOver_keeps (n : StagingLine) (h : P s) : P (s.handOver n) := by
  unfold State.handOver
  split
  · exact giveLine_keeps pool room _ n h
  · exact pool _ _ h

theorem freeLine_keeps (x : HeldLine) (h : P s) : P (s.freeLine e x) := by
  unfold State.freeLine
  dsimp only
  split
  · exact handOver_keeps pool room _ (pool _ _ h)
  · exact pool _ _ h

theorem freeLines_keeps (xs : List HeldLine) (h : P s) : P (s.freeLines e xs) :=
  foldl_keeps (fun _ x h => freeLine_keeps pool room e x h) xs h

theorem takeUpRequest_keeps (b : Bool) (h : P s) : P (s.takeUpRequest e b) := by
  unfold State.takeUpRequest
  dsimp only
  split
  · exact h
  · exact requestLine_keeps pool room e h
  · split
    · split
      · exact giveLine_keeps pool room e _ h
      · exact h
    · exact h

theorem takeConfirmed_keeps (h : P s) : P (s.takeConfirmed e) := by
  unfold State.takeConfirmed
  split
  · split
    · exact h
    · exact takeUpRequest_keeps pool room e _ (freeLines_keeps pool room e _ h)
  · exact h

theorem releaseLines_keeps (h : P s) : P (s.releaseLines e) :=
  pool _ _ (freeLines_keeps pool room e _ (pool _ _ h))

end

/-! ### Engines' units through an operation -/

section
variable {s t : State}

theorem Engine.givenRoom_unit (g : Engine) : g.givenRoom.unit.map Work.key = g.unit.map Work.key := by
  unfold givenRoom
  split
  · next phase =>
    rw [unit, unit, phase]
    rfl
  · rfl

/-- An engine is written with its unit as far as it was. -/
theorem unitKey_setEngine_same (s : State) {e : EngineNo} {g : Engine}
    (same : g.unit.map Work.key = s.unitKey e) : (s.setEngine e g).unitKey = s.unitKey := by
  funext f
  rw [unitKey_setEngine]
  split
  · next here => rw [same, here]
  · rfl

theorem unitKey_room (s : State) (e : EngineNo) :
    (s.setEngine e (s.engine e).givenRoom).unitKey = s.unitKey :=
  unitKey_setEngine_same s (Engine.givenRoom_unit _)

theorem releaseLines_unitKey (s : State) (e : EngineNo) : (s.releaseLines e).unitKey = s.unitKey :=
  releaseLines_keeps (P := fun t => t.unitKey = s.unitKey) (fun _ _ h => h)
    (fun t f h => (unitKey_room t f).trans h) e rfl

theorem takeConfirmed_unitKey (s : State) (e : EngineNo) : (s.takeConfirmed e).unitKey = s.unitKey :=
  takeConfirmed_keeps (P := fun t => t.unitKey = s.unitKey) (fun _ _ h => h)
    (fun t f h => (unitKey_room t f).trans h) e rfl

theorem requestLine_unitKey (s : State) (e : EngineNo) : (s.requestLine e).unitKey = s.unitKey :=
  requestLine_keeps (P := fun t => t.unitKey = s.unitKey) (fun _ _ h => h)
    (fun t f h => (unitKey_room t f).trans h) e rfl

/-- Records and reports stand as they did, and no engine's unit moved on. -/
theorem State.UnitsSound.of_keys (h : s.UnitsSound) (channels : t.channels = s.channels)
    (keys : t.unitKey = s.unitKey) (reports : t.wires.reports = s.wires.reports) : t.UnitsSound := by
  rw [unitsSound_iff, keys, reports, show t.channel = s.channel from funext (channel_of_same channels)]
  exact unitsSound_iff.1 h

/-- An engine's unit ends in a report, and the engine is IDLE. -/
theorem State.UnitsSound.ends (h : s.UnitsSound) {e : EngineNo} {w : Work}
    (serves : (s.engine e).unit = some w) {b : ReportBody} (channels : t.channels = s.channels)
    (keys : ∀ f, t.unitKey f = if e = f then none else s.unitKey f)
    (reports : t.wires.reports = s.wires.reports ++ [⟨w.channel, b⟩])
    (unitEnd : ∀ r o, b = .unitEnd r o → r.done ≤ w.elements)
    (stop : ∀ r x, b = .stop r x → r.done + 1 ≤ w.elements) : t.UnitsSound := by
  have remains := (h.serving e w serves).2.2
  rw [unitsSound_iff, reports, show t.channel = s.channel from funext (channel_of_same channels)]
  refine (unitsSound_iff.1 h).finish (k := w.key) (e := e) ?_ (by rw [keys, if_pos rfl])
    (fun f other => by rw [keys, if_neg other])
    (fun r o is => Channel.remains_mono remains (unitEnd r o is))
    (fun r x is => Channel.remains_mono remains (stop r x is))
  rw [State.unitKey, serves]
  rfl

theorem Engine.unit_of_running {g : Engine} {w : Work} (h : g.phase = .running w) : g.unit = some w := by
  rw [unit, h]

theorem Engine.unit_of_stopping {g : Engine} {w : Work} {c : StopCause} (h : g.phase = .stopping w c) :
    g.unit = some w := by
  rw [unit, h]

theorem unitKey_of_unit {e : EngineNo} {w : Work} (h : (s.engine e).unit = some w) :
    s.unitKey e = some w.key := by
  rw [State.unitKey, h]
  rfl

theorem State.UnitsSound.tryStopEnd (h : s.UnitsSound) (e : EngineNo) : (s.tryStopEnd e).UnitsSound := by
  unfold State.tryStopEnd
  dsimp only
  split
  · next w c phase =>
    split
    · have serves := Engine.unit_of_stopping phase
      have unfinished := (h.serving e w serves).2.1
      refine h.ends serves (by simp) (fun f => ?_) (by simp; rfl) ?_ ?_
      · rw [unitKey_setEngine]
        split
        · rfl
        · exact congrFun (releaseLines_unitKey s e) f
      · rintro _ _ ⟨⟩
      · rintro _ _ ⟨⟩
        exact unfinished
    · exact h
  · exact h

theorem State.UnitsSound.setEngine (h : s.UnitsSound) {e : EngineNo} {g : Engine}
    (same : g.unit.map Work.key = s.unitKey e) : (s.setEngine e g).UnitsSound :=
  h.of_keys rfl (unitKey_setEngine_same s same) rfl

theorem State.UnitsSound.beginStop (h : s.UnitsSound) {e : EngineNo} {w : Work}
    (serves : s.unitKey e = some w.key) (c : StopCause) : (s.beginStop e w c).UnitsSound := by
  have stopping : (s.setEngine e { s.engine e with phase := .stopping w c }).UnitsSound :=
    h.setEngine serves.symm
  have dropped : ((s.setEngine e { s.engine e with phase := .stopping w c }).dropRequest e).UnitsSound :=
    stopping.of_same rfl rfl rfl
  exact dropped.tryStopEnd e

theorem State.UnitsSound.takeFault (h : s.UnitsSound) {e : EngineNo} {w : Work}
    (serves : s.unitKey e = some w.key) (r : FaultRecord) : (s.takeFault e w r).UnitsSound := by
  have told : (s.sendReport ⟨w.channel, .faulted⟩).UnitsSound :=
    unitsSound_iff.2 ((unitsSound_iff.1 h).faulted w.channel)
  exact told.beginStop serves (.fault r)

/-- A RUNNING engine faults, its lists changed. -/
theorem State.UnitsSound.setEngine_takeFault (h : s.UnitsSound) {e : EngineNo} {g : Engine} {w : Work}
    (phase : (s.engine e).phase = .running w) (same : g.phase = .running w) (r : FaultRecord) :
    ((s.setEngine e g).takeFault e w r).UnitsSound := by
  have serves := unitKey_of_unit (Engine.unit_of_running phase)
  have key : g.unit.map Work.key = s.unitKey e := by
    rw [Engine.unit_of_running same, serves]
    rfl
  have written : (s.setEngine e g).UnitsSound := h.setEngine key
  exact written.takeFault (by rw [unitKey_setEngine_same s key, serves]) r

/-- The unit goes on at its engine. -/
theorem State.UnitsSound.goesOn (h : s.UnitsSound) {e : EngineNo} {w x : Work}
    (serves : (s.engine e).unit = some w) (channel : x.channel = w.channel)
    (elements : x.elements = w.elements) (unfinished : x.confirmed < x.elements)
    (channels : t.channels = s.channels)
    (keys : ∀ f, t.unitKey f = if e = f then some x.key else s.unitKey f)
    (reports : t.wires.reports = s.wires.reports) : t.UnitsSound := by
  rw [unitsSound_iff, reports, show t.channel = s.channel from funext (channel_of_same channels)]
  have agree := unitsSound_iff.1 h
  refine agree.progress fun f k here => ?_
  rw [keys] at here
  split at here
  · next same =>
    obtain rfl := Option.some.inj here
    exact ⟨w.key, same ▸ unitKey_of_unit serves, channel, elements, unfinished⟩
  · exact ⟨k, here, rfl, rfl, (agree.serving f k here).2.1⟩

/-! ### Responses, failures and stop causes -/

theorem takeEngineWord_eq {d : Domain} {e : EngineNo} {b : EngineWordBody}
    (h : s.takeEngineWord d e = some (b, t)) :
    ∃ ws, t = s.setWires { s.wires with engineWords := s.wires.engineWords.set d ws } := by
  unfold State.takeEngineWord at h
  split at h
  · cases h
    exact ⟨_, rfl⟩
  · cases h

theorem State.UnitsSound.takeEngineWord (h : s.UnitsSound) {d : Domain} {e : EngineNo}
    {b : EngineWordBody} (taken : s.takeEngineWord d e = some (b, t)) : t.UnitsSound := by
  obtain ⟨ws, rfl⟩ := takeEngineWord_eq taken
  exact h.of_same rfl rfl rfl

theorem State.UnitsSound.absorb (h : s.UnitsSound) {e : EngineNo} {g : Engine}
    (same : g.unit.map Work.key = s.unitKey e) : (s.absorb e g).UnitsSound :=
  (h.setEngine same).tryStopEnd e

theorem State.UnitsSound.readOkay (h : s.UnitsSound) (d : Domain) (e : EngineNo) (x : Txn)
    (data : List Byte) : (s.readOkay d e x data).UnitsSound := by
  unfold State.readOkay
  dsimp only
  split
  · next w phase =>
    have serves := unitKey_of_unit (Engine.unit_of_running phase)
    have stored : (s.storeRead e w x data).UnitsSound := h.of_same (by simp) (by simp) (by simp)
    refine stored.setEngine ?_
    rw [unitKey_of_same (s := s) (by simp), serves]
    rfl
  · exact h.absorb rfl
  · exact h

theorem State.UnitsSound.writeOkay (h : s.UnitsSound) (d : Domain) (e : EngineNo) (x : Txn) :
    (s.writeOkay d e x).UnitsSound := by
  unfold State.writeOkay
  dsimp only
  split
  · next w phase =>
    have serves := Engine.unit_of_running phase
    let w' := { w with confirmed := w.confirmed + x.elems }
    let u := (s.setEngine e { (s.engine e).drop d x with phase := .running w' }).takeConfirmed e
    have keys (f : EngineNo) : u.unitKey f = if e = f then some w'.key else s.unitKey f := by
      rw [show u.unitKey = _ from takeConfirmed_unitKey _ e, unitKey_setEngine]
      rfl
    have channels : u.channels = s.channels := by simp [u]
    have reports : u.wires.reports = s.wires.reports := by simp [u]
    split
    · refine h.ends serves (t := u.endUnit e w') (b := .unitEnd
        ⟨w.src.addressAfter w.size.bytes w.elements, w.dst.addressAfter w.size.bytes w.elements, w.elements⟩
        w.origin) ?_ (fun f => ?_) ?_ ?_ nofun
      · simpa using channels
      · rw [State.endUnit, unitKey_setEngine]
        split
        · rfl
        · next other =>
          refine (congrFun (releaseLines_unitKey u e) f).trans ?_
          rw [keys, if_neg other]
      · simp only [State.endUnit, setEngine_wires, sendReport_wires, releaseLines_frame, reports]
        rfl
      · rintro _ _ ⟨⟩
        exact le_rfl
    · next unfinished => exact h.goesOn (x := w') serves rfl rfl (Nat.lt_of_not_le unfinished) channels keys reports
  · exact h.absorb rfl
  · exact h

theorem State.UnitsSound.responseError (h : s.UnitsSound) (d : Domain) (e : EngineNo) (x : Txn) :
    (s.responseError d e x).UnitsSound := by
  unfold State.responseError
  dsimp only
  split
  · next phase => exact h.setEngine_takeFault phase (by exact phase) _
  · exact h.absorb rfl
  · exact h

theorem State.UnitsSound.failTxns (h : s.UnitsSound) (d : Domain) (e : EngineNo) (k : FailureKind)
    (xs : List Txn) : (s.failTxns d e k xs).UnitsSound := by
  unfold State.failTxns
  dsimp only
  split
  · next phase _ => exact h.setEngine_takeFault phase (by exact phase) _
  · exact h.absorb rfl
  · exact h

theorem State.UnitsSound.refuseOffer (h : s.UnitsSound) (d : Domain) (e : EngineNo) (k : AdmissionKind)
    (x : Txn) : (s.refuseOffer d e k x).UnitsSound := by
  have ended : (s.setEngine e ((s.engine e).endAdmission d)).UnitsSound := h.setEngine rfl
  unfold State.refuseOffer
  dsimp only
  split
  · next phase => exact h.setEngine_takeFault phase (by exact phase) _
  · exact ended.tryStopEnd e
  · exact ended

theorem takeCause_eq {ch : ChannelNo} {c : SentCause} (h : s.takeCause ch c = some t) :
    ∃ ws, t = s.setWires { s.wires with causes := ws } := by
  unfold State.takeCause at h
  split at h
  · split at h
    · cases h
      exact ⟨_, rfl⟩
    · cases h
  · cases h

theorem State.UnitsSound.causeAbort (h : s.UnitsSound) (ch : ChannelNo) : (s.causeAbort ch).UnitsSound := by
  unfold State.causeAbort
  split
  · split
    · next phase => exact h.beginStop (unitKey_of_unit (Engine.unit_of_running phase)) _
    · exact h
  · exact h

theorem State.UnitsSound.causeTeardown (h : s.UnitsSound) (ch : ChannelNo) :
    (s.causeTeardown ch).UnitsSound := by
  unfold State.causeTeardown
  split
  · next e _ =>
    split
    · next phase => exact h.beginStop (unitKey_of_unit (Engine.unit_of_running phase)) _
    · next w c phase =>
      have serves := unitKey_of_unit (Engine.unit_of_stopping phase)
      have replaced : (s.setEngine e { s.engine e with phase := .stopping w .teardown }).UnitsSound :=
        h.setEngine serves.symm
      exact replaced.tryStopEnd e
    · exact h
  · exact h

theorem Engine.issued_unit (g : Engine) (d : Domain) (x : Txn) :
    (g.issued d x).unit.map Work.key = g.unit.map Work.key := by
  have work (w : Work) : (w.issued x).key = w.key := by
    unfold Work.issued
    split <;> rfl
  unfold issued
  dsimp only
  split
  · next w phase =>
    rw [unit_of_running phase, unit_of_running (w := w.issued x) rfl]
    exact congrArg some (work w)
  · next w c phase =>
    rw [unit_of_stopping phase, unit_of_stopping (w := w.issued x) (c := c) rfl]
    exact congrArg some (work w)
  · rfl

/-! ### Every command -/

/-- The commands of the engines and the pool, which write no channel record. -/
theorem exec_engines_unitsSound {c : Instr} (records : movesRecords c = false)
    (engines : Block.engines ∈ writesOf c) (ran : exec c s = .next t) (h : s.UnitsSound) :
    t.UnitsSound := by
  cases c with
  | takeOffer d =>
    change execTakeOffer d s = .next t at ran
    unfold execTakeOffer at ran
    split at ran
    · split at ran <;> cases ran
      · next e x _ =>
        have under : (s.setEngine e { s.engine e with
            admission := (s.engine e).admission.set d (some x) }).UnitsSound := h.setEngine rfl
        exact under.of_same rfl rfl rfl
      · exact h
    · cases ran
      exact h
  | admissionAnswer d =>
    change execAdmissionAnswer d s = .next t at ran
    unfold execAdmissionAnswer at ran
    split at ran
    · next a _ _ =>
      dsimp only at ran
      split at ran
      · split at ran <;> cases ran
        · exact h.of_keys rfl (unitKey_setEngine_same (e := a.engine) s (Engine.issued_unit _ _ _)) rfl
        · exact h.of_same rfl rfl rfl
      · split at ran <;> cases ran <;> exact h.of_same rfl rfl rfl
    · cases ran
      exact h
  | roomRequest e =>
    change execRoomRequest e s = .next t at ran
    unfold execRoomRequest at ran
    split at ran
    · split at ran
      · split at ran <;> cases ran
        · exact h.of_keys (by simp) (requestLine_unitKey s e) (by simp)
        · exact h.of_keys rfl (unitKey_room s e) rfl
      · cases ran
        exact h
    · cases ran
      exact h
  | confirmedBytes e =>
    cases ran
    exact h.of_keys (by simp) (takeConfirmed_unitKey s e) (by simp)
  | lineRelease e =>
    change execLineRelease e s = .next t at ran
    unfold execLineRelease at ran
    split at ran <;> cases ran
    · exact h.of_keys (by simp) (releaseLines_unitKey s e) (by simp)
    · exact h.tryStopEnd e
    · exact h
  | admissionRefusal d e =>
    change execAdmissionRefusal d e s = .next t at ran
    unfold execAdmissionRefusal at ran
    split at ran <;> cases ran
    · exact State.UnitsSound.refuseOffer (s := s.setOfferBack d e none) (h.of_same rfl rfl rfl) d e _ _
    · exact h
  | offerReturned d e =>
    change execOfferReturned d e s = .next t at ran
    unfold execOfferReturned at ran
    split at ran <;> cases ran
    · have back : (s.setOfferBack d e none).UnitsSound := h.of_same rfl rfl rfl
      have ended : ((s.setOfferBack d e none).setEngine e
          (((s.setOfferBack d e none).engine e).endAdmission d)).UnitsSound := back.setEngine rfl
      exact ended.tryStopEnd e
    · exact h
  | readResponseOkay d e =>
    change execReadResponseOkay d e s = .next t at ran
    unfold execReadResponseOkay at ran
    split at ran
    · next taken =>
      split at ran <;> cases ran
      · exact (h.takeEngineWord taken).readOkay d e _ _
      · exact h
    · cases ran
      exact h
  | writeResponseOkay d e =>
    change execWriteResponseOkay d e s = .next t at ran
    unfold execWriteResponseOkay at ran
    split at ran
    · next taken =>
      split at ran <;> cases ran
      · exact (h.takeEngineWord taken).writeOkay d e _
      · exact h
    · cases ran
      exact h
  | responseError d e =>
    change execResponseError d e s = .next t at ran
    unfold execResponseError at ran
    split at ran <;> cases ran
    · next taken => exact (h.takeEngineWord taken).responseError d e _
    · exact h
  | transactionFailure d e =>
    change execTransactionFailure d e s = .next t at ran
    unfold execTransactionFailure at ran
    split at ran <;> cases ran
    · next taken => exact (h.takeEngineWord taken).failTxns d e _ _
    · exact h
  | stopCauseAbort ch =>
    change execStopCauseAbort ch s = .next t at ran
    unfold execStopCauseAbort at ran
    split at ran <;> cases ran
    · next taken =>
      obtain ⟨ws, rfl⟩ := takeCause_eq taken
      refine State.UnitsSound.causeAbort ?_ ch
      exact h.of_same rfl rfl rfl
    · exact h
  | stopCauseTeardown ch =>
    change execStopCauseTeardown ch s = .next t at ran
    unfold execStopCauseTeardown at ran
    split at ran <;> cases ran
    · next taken =>
      obtain ⟨ws, rfl⟩ := takeCause_eq taken
      refine State.UnitsSound.causeTeardown ?_ ch
      exact h.of_same rfl rfl rfl
    · exact h
  | dispatch | powerOnReset => simp [movesRecords] at records
  | _ => simp at engines

theorem reset_unitsSound : State.reset.UnitsSound := by
  have blank (ch : ChannelNo) : State.reset.channel ch = .free := Table.row_fill _ _
  have noUnit (e : EngineNo) : State.reset.unitKey e = none := by
    have idle : State.reset.engine e = .idle := Table.row_fill _ _
    rw [State.unitKey, idle]
    rfl
  rw [unitsSound_iff]
  refine ⟨fun ch => blank ch ▸ Channel.unitOk_free, fun e k serves => ?_, fun e f k x serves => ?_, nofun,
    .nil, nofun, nofun⟩
  all_goals simp [noUnit] at serves

theorem Moves.unitsSound {rel : Bool} (m : Moves rel s t) (records : s.RecordsSound) (h : s.UnitsSound) :
    t.UnitsSound := by
  suffices both : t.RecordsSound ∧ t.UnitsSound from both.2
  induction m with
  | refl => exact ⟨records, h⟩
  | tail _ last ih =>
    exact ⟨(State.InStep.move last (fun _ => rfl) ⟨ih.1, by simp⟩).1, last.unitsSound ih.1 ih.2⟩

theorem exec_unitsSound {c : Instr} (ran : exec c s = .next t) (records : s.RecordsSound)
    (h : s.UnitsSound) : t.UnitsSound := by
  by_cases isReset : c = .powerOnReset
  · subst isReset
    cases ran
    exact reset_unitsSound.of_same rfl rfl rfl
  · cases moves : movesRecords c with
    | true => exact (exec_moves moves isReset ran).unitsSound records h
    | false =>
      by_cases engines : Block.engines ∈ writesOf c
      · exact exec_engines_unitsSound moves engines ran h
      · have reports : Block.reports ∉ writesOf c := by
          cases c <;> simp [movesRecords] at moves engines isReset ⊢
        exact h.of_same (exec_records moves ran).1 (exec_frame ran .engines engines)
          (exec_frame ran .reports reports)

end

end Sys2Proof.Machine

open Sys2Proof Sys2Proof.Machine

/-- Settles O60: the conditions on units depend on the records, on the engines' units and on the reports
under way; a report that ends a unit leaves nothing else under way for its channel when it is taken. -/
theorem unitsStayInStep : Obligations.UnitsStayInStep := by
  intro s t records h ran
  exact (step_keeps (P := fun s => s.RecordsSound ∧ s.UnitsSound)
    (fun _ _ h => ⟨recordsSound_of_same rfl rfl h.1, h.2.of_same rfl rfl rfl⟩)
    (fun _ _ h => ⟨recordsSound_of_same rfl rfl h.1, h.2.of_same rfl rfl rfl⟩)
    (fun _ _ _ h ran => ⟨exec_recordsSound ran h.1, exec_unitsSound ran h.1 h.2⟩) ran ⟨records, h⟩).2

end

section
/-! PROOFS. What a command can do to the engines and the Staging Pool: a handful of operations, each said
once with the condition under which it is made. An invariant of engines and pool is proved operation by
operation. -/

namespace Sys2Proof.Machine

/-- The invariant is kept by every operation that writes an engine or the pool. -/
structure EngineOps (P : State → Prop) : Prop where
  /-- Neither engines nor pool change. -/
  same : ∀ s t : State, t.engines = s.engines → t.pool = s.pool → P s → P t
  /-- An engine is written that is IDLE before and after, or neither. -/
  write : ∀ s e g, (g.phase = .idle ↔ (s.engine e).phase = .idle) → P s → P (s.setEngine e g)
  /-- Bytes are stored in staging lines (R59). -/
  store : ∀ s x, P s → P (s.setPool { s.pool with data := x })
  /-- A request for a new line, none standing on the Line Wait List (R79). -/
  request : ∀ s e, (s.poolEngine e).request ≠ .listed → P s → P (s.requestLine e)
  /-- Lines wholly confirmed are freed and the engine's request is taken up (R82, R84). -/
  confirmed : ∀ s e, P s → P (s.takeConfirmed e)
  /-- A pending request is dropped (R85). -/
  drop : ∀ s e, P s → P (s.dropRequest e)
  /-- An IDLE engine gives up what it holds (R75). -/
  release : ∀ s e, (s.engine e).phase = .idle → P s → P (s.releaseLines e)
  /-- An engine becomes IDLE and gives up what it holds (R85, R86). -/
  retire : ∀ s e, P s → P ((s.releaseLines e).setEngine e .idle)
  /-- An IDLE engine takes a channel (R51, R76). -/
  start : ∀ s e w, (s.engine e).phase = .idle → P s → P (s.startUnit e w)
  reset : P .reset

namespace EngineOps

variable {P : State → Prop} (ops : EngineOps P) {s t : State}
include ops

theorem setWires (w : Wires) (h : P s) : P (s.setWires w) := ops.same s _ rfl rfl h

/-- A RUNNING or STOPPING engine is written with a phase that is not IDLE. -/
theorem busy {e : EngineNo} {g : Engine} (was : (s.engine e).phase ≠ .idle) (now : g.phase ≠ .idle)
    (h : P s) : P (s.setEngine e g) := ops.write s e g (by simp [was, now]) h

theorem tryStopEnd (e : EngineNo) (h : P s) : P (s.tryStopEnd e) := by
  unfold State.tryStopEnd
  dsimp only
  split
  · split
    · exact ops.same ((s.releaseLines e).setEngine e .idle) _ rfl rfl (ops.retire s e h)
    · exact h
  · exact h

theorem beginStop {e : EngineNo} (was : (s.engine e).phase ≠ .idle) (w : Work) (c : StopCause) (h : P s) :
    P (s.beginStop e w c) :=
  ops.tryStopEnd e (ops.drop _ e (ops.busy was nofun h))

theorem takeFault {e : EngineNo} (was : (s.engine e).phase ≠ .idle) (w : Work) (r : FaultRecord) (h : P s) :
    P (s.takeFault e w r) :=
  ops.beginStop (s := s.sendReport ⟨w.channel, .faulted⟩) was w (.fault r) (ops.setWires _ h)

/-- A RUNNING engine faults, its lists changed. -/
theorem write_takeFault {e : EngineNo} {g : Engine} (was : (s.engine e).phase ≠ .idle)
    (now : g.phase ≠ .idle) (w : Work) (r : FaultRecord) (h : P s) :
    P ((s.setEngine e g).takeFault e w r) := by
  refine ops.takeFault ?_ w r (ops.busy was now h)
  rw [engine_setEngine_self]
  exact now

theorem absorb {e : EngineNo} {g : Engine} (was : (s.engine e).phase ≠ .idle) (now : g.phase ≠ .idle)
    (h : P s) : P (s.absorb e g) := ops.tryStopEnd e (ops.busy was now h)

/-! ### Responses, failures and stop causes -/

theorem takeEngineWord {d : Domain} {e : EngineNo} {b : EngineWordBody}
    (taken : s.takeEngineWord d e = some (b, t)) (h : P s) : P t := by
  obtain ⟨ws, rfl⟩ := takeEngineWord_eq taken
  exact ops.setWires _ h

theorem storeRead (e : EngineNo) (w : Work) (x : Txn) (data : List Byte) (h : P s) :
    P (s.storeRead e w x data) := by
  unfold State.storeRead
  split
  · exact h
  · exact ops.store _ _ h

theorem readOkay (d : Domain) (e : EngineNo) (x : Txn) (data : List Byte) (h : P s) :
    P (s.readOkay d e x data) := by
  unfold State.readOkay
  dsimp only
  split
  · next phase =>
    refine ops.busy ?_ nofun (ops.storeRead e _ x data h)
    rw [engine_of_same (s := s) (by simp), phase]
    nofun
  · next phase => exact ops.absorb (by simp [phase]) (by simp [Engine.drop, phase]) h
  · exact h

theorem writeOkay (d : Domain) (e : EngineNo) (x : Txn) (h : P s) : P (s.writeOkay d e x) := by
  unfold State.writeOkay
  dsimp only
  split
  · next w phase =>
    have confirmed := ops.confirmed _ e (ops.busy (e := e) (g := { (s.engine e).drop d x with
      phase := .running { w with confirmed := w.confirmed + x.elems } }) (by simp [phase]) nofun h)
    split
    · exact ops.same ((State.releaseLines _ e).setEngine e .idle) _ rfl rfl (ops.retire _ e confirmed)
    · exact confirmed
  · next phase => exact ops.absorb (by simp [phase]) (by simp [Engine.drop, phase]) h
  · exact h

theorem responseError (d : Domain) (e : EngineNo) (x : Txn) (h : P s) : P (s.responseError d e x) := by
  unfold State.responseError
  dsimp only
  split
  · next phase => exact ops.write_takeFault (by simp [phase]) (by simp [Engine.drop, phase]) _ _ h
  · next phase => exact ops.absorb (by simp [phase]) (by simp [Engine.drop, phase]) h
  · exact h

theorem failTxns (d : Domain) (e : EngineNo) (k : FailureKind) (xs : List Txn) (h : P s) :
    P (s.failTxns d e k xs) := by
  unfold State.failTxns
  dsimp only
  split
  · next phase _ => exact ops.write_takeFault (by simp [phase]) (by simp [Engine.dropAll, phase]) _ _ h
  · next phase => exact ops.absorb (by simp [phase]) (by simp [Engine.dropAll, phase]) h
  · exact h

theorem refuseOffer (d : Domain) (e : EngineNo) (k : AdmissionKind) (x : Txn) (h : P s) :
    P (s.refuseOffer d e k x) := by
  unfold State.refuseOffer
  dsimp only
  split
  · next phase => exact ops.write_takeFault (by simp [phase]) (by simp [Engine.endAdmission, phase]) _ _ h
  · exact ops.tryStopEnd e (ops.write s e _ Iff.rfl h)
  · exact ops.write s e _ Iff.rfl h

theorem takeCause {ch : ChannelNo} {c : SentCause} (taken : s.takeCause ch c = some t) (h : P s) : P t := by
  obtain ⟨ws, rfl⟩ := takeCause_eq taken
  exact ops.setWires _ h

theorem causeAbort (ch : ChannelNo) (h : P s) : P (s.causeAbort ch) := by
  unfold State.causeAbort
  split
  · split
    · next phase => exact ops.beginStop (by simp [phase]) _ _ h
    · exact h
  · exact h

theorem causeTeardown (ch : ChannelNo) (h : P s) : P (s.causeTeardown ch) := by
  unfold State.causeTeardown
  split
  · split
    · next phase => exact ops.beginStop (by simp [phase]) _ _ h
    · next phase => exact ops.tryStopEnd _ (ops.busy (by simp [phase]) nofun h)
    · exact h
  · exact h

/-! ### Dispatch -/

omit ops in
/-- The engine a dispatch chooses is IDLE (R32). -/
theorem idle_of_idleEngine {e : EngineNo} (idle : s.idleEngine = some e) : (s.engine e).phase = .idle := by
  have found := List.find?_some idle
  split at found
  · assumption
  · cases found

theorem dispatchHead {e : EngineNo} (idle : (s.engine e).phase = .idle) (k : SchedClass) (ch : ChannelNo)
    (rest : List ChannelNo) (h : P s) : P (s.dispatchHead e k ch rest) := by
  unfold State.dispatchHead
  dsimp only
  split
  · next p ld _ _ =>
    set u := ((s.setTrigger ((s.trigger.setQueue k rest).countSkips k)).serveLine (s.channel ch)).setChannel ch
      (s.channel ch).dispatched with before
    have engines : u.engines = s.engines := by simp [before]
    have pool : u.pool = s.pool := by simp [before]
    refine ops.same (u.startUnit e (workOf ch p ld ((s.channel ch).dispatched.origin.getD .credit))) _
      (by simp) (by simp) (ops.start u e _ ?_ (ops.same s u engines pool h))
    rwa [engine_of_same engines]
  · exact h

/-! ### Every command -/

theorem takeOffer {d : Domain} (ran : execTakeOffer d s = .next t) (h : P s) : P t := by
  unfold execTakeOffer at ran
  split at ran
  · split at ran <;> cases ran
    · next e x _ =>
      exact ops.same (s.setEngine e { s.engine e with admission := (s.engine e).admission.set d (some x) })
        _ rfl rfl (ops.write s e _ Iff.rfl h)
    · exact h
  · cases ran
    exact h

omit ops in
theorem issued_idle (g : Engine) (d : Domain) (x : Txn) : (g.issued d x).phase = .idle ↔ g.phase = .idle := by
  unfold Engine.issued
  dsimp only
  split <;> simp_all

theorem admissionAnswer {d : Domain} (ran : execAdmissionAnswer d s = .next t) (h : P s) : P t := by
  unfold execAdmissionAnswer at ran
  split at ran
  · next a _ _ =>
    dsimp only at ran
    split at ran
    · split at ran <;> cases ran
      · exact ops.write _ a.engine _ (issued_idle _ _ _) (ops.same s _ rfl rfl h)
      · exact ops.same s _ rfl rfl h
    · split at ran <;> cases ran <;> exact ops.same s _ rfl rfl h
  · cases ran
    exact h

theorem roomRequest {e : EngineNo} (ran : execRoomRequest e s = .next t) (h : P s) : P t := by
  unfold execRoomRequest at ran
  split at ran
  · next w phase none =>
    split at ran
    · split at ran <;> cases ran
      · exact ops.request s e (by simp [none]) h
      · exact ops.busy (by simp [phase]) (by simp [Engine.givenRoom, phase]) h
    · cases ran
      exact h
  · cases ran
    exact h

theorem lineRelease {e : EngineNo} (ran : execLineRelease e s = .next t) (h : P s) : P t := by
  unfold execLineRelease at ran
  split at ran <;> cases ran
  · next idle => exact ops.release s e idle h
  · exact ops.tryStopEnd e h
  · exact h

theorem exec {c : Instr} (ran : Machine.exec c s = .next t) (h : P s) : P t := by
  by_cases writes : Block.engines ∈ writesOf c
  · cases c with
    | takeOffer d => exact ops.takeOffer ran h
    | admissionAnswer d => exact ops.admissionAnswer ran h
    | roomRequest e => exact ops.roomRequest ran h
    | confirmedBytes e =>
      cases ran
      exact ops.confirmed s e h
    | lineRelease e => exact ops.lineRelease ran h
    | admissionRefusal d e =>
      change execAdmissionRefusal d e s = .next t at ran
      unfold execAdmissionRefusal at ran
      split at ran <;> cases ran
      · exact ops.refuseOffer d e _ _ (ops.setWires _ h)
      · exact h
    | offerReturned d e =>
      change execOfferReturned d e s = .next t at ran
      unfold execOfferReturned at ran
      split at ran <;> cases ran
      · exact ops.tryStopEnd e (ops.write _ e _ Iff.rfl (ops.setWires _ h))
      · exact h
    | readResponseOkay d e =>
      change execReadResponseOkay d e s = .next t at ran
      unfold execReadResponseOkay at ran
      split at ran
      · next taken =>
        split at ran <;> cases ran
        · exact ops.readOkay d e _ _ (ops.takeEngineWord taken h)
        · exact h
      · cases ran
        exact h
    | writeResponseOkay d e =>
      change execWriteResponseOkay d e s = .next t at ran
      unfold execWriteResponseOkay at ran
      split at ran
      · next taken =>
        split at ran <;> cases ran
        · exact ops.writeOkay d e _ (ops.takeEngineWord taken h)
        · exact h
      · cases ran
        exact h
    | responseError d e =>
      change execResponseError d e s = .next t at ran
      unfold execResponseError at ran
      split at ran <;> cases ran
      · next taken => exact ops.responseError d e _ (ops.takeEngineWord taken h)
      · exact h
    | transactionFailure d e =>
      change execTransactionFailure d e s = .next t at ran
      unfold execTransactionFailure at ran
      split at ran <;> cases ran
      · next taken => exact ops.failTxns d e _ _ (ops.takeEngineWord taken h)
      · exact h
    | stopCauseAbort ch =>
      change execStopCauseAbort ch s = .next t at ran
      unfold execStopCauseAbort at ran
      split at ran <;> cases ran
      · next taken => exact ops.causeAbort ch (ops.takeCause taken h)
      · exact h
    | stopCauseTeardown ch =>
      change execStopCauseTeardown ch s = .next t at ran
      unfold execStopCauseTeardown at ran
      split at ran <;> cases ran
      · next taken => exact ops.causeTeardown ch (ops.takeCause taken h)
      · exact h
    | dispatch =>
      change execDispatch s = .next t at ran
      unfold execDispatch at ran
      split at ran
      · next e k idle _ =>
        split at ran <;> cases ran
        · exact ops.dispatchHead (idle_of_idleEngine idle) k _ _ h
        · exact h
      · cases ran
        exact h
    | powerOnReset =>
      cases ran
      exact ops.same .reset _ rfl rfl ops.reset
    | _ => simp at writes
  · have pool : Block.pool ∉ writesOf c := by
      cases c <;> simp at writes ⊢
    exact ops.same s t (exec_frame ran .engines writes) (exec_frame ran .pool pool) h

theorem step (ran : Machine.step s = .next t) (h : P s) : P t :=
  step_keeps (P := P) (fun u _ h => ops.same u _ rfl rfl h) (fun u _ h => ops.same u _ rfl rfl h)
    (fun _ _ _ h ran => ops.exec ran h) ran h

end EngineOps

end Sys2Proof.Machine
end

section
/-! PROOFS. The Staging Pool: each operation moves a line from one place to another, so that the lines stay
partitioned among the free list, the engines and no other place (R75); limits and the Line Wait List stay in
step (R76, R80). And what stands at a Bus Master follows every write of an engine (R57). -/

namespace Sys2Proof.Machine

/-! ### Standing offers -/

section
variable {s t : State}

theorem Engine.reoffer_offers (g : Engine) (d : Domain) : g.reoffer.offers.get d = g.reoffer.offerAt d := by
  cases d <;> rfl

theorem State.OffersSound.of_same (h : s.OffersSound) (engines : t.engines = s.engines) : t.OffersSound :=
  fun e d => by
    rw [engine_of_same engines]
    exact h e d

theorem State.OffersSound.setEngine (h : s.OffersSound) (e : EngineNo) (g : Engine) :
    (s.setEngine e g).OffersSound := fun f d => by
  rw [engine_setEngine]
  split
  · exact g.reoffer_offers d
  · exact h f d

theorem offersOps : EngineOps State.OffersSound where
  same _ _ engines _ h := h.of_same engines
  write _ e g _ h := h.setEngine e g
  store _ _ h := h
  request _ e _ h := requestLine_keeps (fun _ _ h => h) (fun _ e h => h.setEngine e _) e h
  confirmed _ e h := takeConfirmed_keeps (fun _ _ h => h) (fun _ e h => h.setEngine e _) e h
  drop _ _ h := h
  release _ e _ h := releaseLines_keeps (fun _ _ h => h) (fun _ e h => h.setEngine e _) e h
  retire _ e h :=
    (releaseLines_keeps (P := State.OffersSound) (fun _ _ h => h) (fun _ e h => h.setEngine e _) e h).setEngine e _
  start s e w _ h := by
    unfold State.startUnit
    dsimp only
    refine State.OffersSound.setEngine ?_ e _
    exact h.of_same rfl
  reset e d := by
    have idle : State.reset.engine e = .idle := Table.row_fill _ _
    rw [idle]
    cases d <;> rfl

end

/-! ### Where the lines are (R75) -/

/-- Every line in one place: on the free list, held by one engine, or loose on its way between two
places. -/
structure LinesParted (free : List StagingLine) (held : EngineNo → List StagingLine)
    (loose : Option StagingLine) : Prop where
  freeOnce : free.Nodup
  freeShared : ∀ n ∈ free, sharedLine n
  heldOnce : ∀ e, (held e).Nodup
  heldApart : ∀ e f n, n ∈ held e → n ∈ held f → e = f
  heldNotFree : ∀ e n, n ∈ held e → n ∉ free
  reserveOwn : ∀ e n, n ∈ held e → sharedLine n ∨ n.val / 2 = e.val
  accounted : ∀ n, sharedLine n → n ∈ free ∨ (∃ e, n ∈ held e) ∨ loose = some n
  looseNotFree : ∀ n, loose = some n → n ∉ free
  looseNotHeld : ∀ e n, loose = some n → n ∉ held e

namespace LinesParted

variable {free rest : List StagingLine} {held now : EngineNo → List StagingLine} {n : StagingLine}

/-- The head of the free list is taken. -/
theorem taken (h : LinesParted (n :: rest) held none) : LinesParted rest held (some n) := by
  obtain ⟨freeOnce, freeShared, heldOnce, heldApart, heldNotFree, reserveOwn, accounted, -, -⟩ := h
  obtain ⟨out, once⟩ := List.nodup_cons.1 freeOnce
  refine ⟨once, fun m hm => freeShared m (List.mem_cons_of_mem _ hm), heldOnce, heldApart,
    fun e m hm later => heldNotFree e m hm (List.mem_cons_of_mem _ later), reserveOwn, fun m shared => ?_,
    ?_, ?_⟩
  · obtain here | held | none := accounted m shared
    · obtain rfl | later := List.mem_cons.1 here
      · exact .inr (.inr rfl)
      · exact .inl later
    · exact .inr (.inl held)
    · cases none
  · rintro m ⟨⟩
    exact out
  · rintro e m ⟨⟩ hm
    exact heldNotFree e n hm (List.mem_cons_self ..)

/-- A free reserve line is taken. -/
theorem reserve (h : LinesParted free held none) (own : ¬sharedLine n) (out : ∀ e, n ∉ held e) :
    LinesParted free held (some n) where
  freeOnce := h.freeOnce
  freeShared := h.freeShared
  heldOnce := h.heldOnce
  heldApart := h.heldApart
  heldNotFree := h.heldNotFree
  reserveOwn := h.reserveOwn
  accounted m shared := by
    obtain here | held | none := h.accounted m shared
    · exact .inl here
    · exact .inr (.inl held)
    · cases none
  looseNotFree := by
    rintro m ⟨⟩ here
    exact own (h.freeShared n here)
  looseNotHeld := by
    rintro e m ⟨⟩
    exact out e

/-- A loose line is given to an engine. -/
theorem given (h : LinesParted free held (some n)) {e : EngineNo} (may : sharedLine n ∨ n.val / 2 = e.val)
    (gains : now e = held e ++ [n]) (others : ∀ f, e ≠ f → now f = held f) :
    LinesParted free now none := by
  obtain ⟨freeOnce, freeShared, heldOnce, heldApart, heldNotFree, reserveOwn, accounted, looseNotFree,
    looseNotHeld⟩ := h
  have mem (f : EngineNo) (m : StagingLine) : m ∈ now f ↔ m ∈ held f ∨ e = f ∧ m = n := by
    by_cases here : e = f
    · subst here
      simp [gains]
    · simp [others f here, here]
  refine ⟨freeOnce, freeShared, fun f => ?_, fun f g m hf hg => ?_, fun f m hm => ?_, fun f m hm => ?_,
    fun m shared => ?_, nofun, nofun⟩
  · by_cases here : e = f
    · subst here
      rw [gains]
      exact (heldOnce e).append (List.nodup_singleton n) (by simpa using looseNotHeld e n rfl)
    · rw [others f here]
      exact heldOnce f
  · obtain old | ⟨rfl, rfl⟩ := (mem f m).1 hf <;> obtain old' | ⟨rfl, new⟩ := (mem g m).1 hg
    · exact heldApart f g m old old'
    · exact absurd old (new ▸ looseNotHeld f n rfl)
    · exact absurd old' (looseNotHeld g _ rfl)
    · rfl
  · obtain old | ⟨-, rfl⟩ := (mem f m).1 hm
    · exact heldNotFree f m old
    · exact looseNotFree m rfl
  · obtain old | ⟨rfl, rfl⟩ := (mem f m).1 hm
    · exact reserveOwn f m old
    · exact may
  · obtain here | ⟨f, there⟩ | loose := accounted m shared
    · exact .inl here
    · exact .inr (.inl ⟨f, (mem f m).2 (.inl there)⟩)
    · obtain rfl := Option.some.inj loose
      exact .inr (.inl ⟨e, (mem e n).2 (.inr ⟨rfl, rfl⟩)⟩)

/-- An engine gives a line up. -/
theorem dropped (h : LinesParted free held none) {e : EngineNo} (holds : n ∈ held e)
    (loses : now e = (held e).filter (· != n)) (others : ∀ f, e ≠ f → now f = held f) :
    LinesParted free now (some n) := by
  obtain ⟨freeOnce, freeShared, heldOnce, heldApart, heldNotFree, reserveOwn, accounted, -, -⟩ := h
  have mem (f : EngineNo) (m : StagingLine) : m ∈ now f ↔ m ∈ held f ∧ m ≠ n := by
    by_cases here : e = f
    · subst here
      simp [loses]
    · rw [others f here]
      exact ⟨fun hm => ⟨hm, fun same => here (heldApart e f n holds (same ▸ hm))⟩, And.left⟩
  refine ⟨freeOnce, freeShared, fun f => ?_, fun f g m hf hg => ?_, fun f m hm => ?_, fun f m hm => ?_,
    fun m shared => ?_, ?_, ?_⟩
  · by_cases here : e = f
    · subst here
      rw [loses]
      exact (heldOnce e).filter _
    · rw [others f here]
      exact heldOnce f
  · exact heldApart f g m ((mem f m).1 hf).1 ((mem g m).1 hg).1
  · exact heldNotFree f m ((mem f m).1 hm).1
  · exact reserveOwn f m ((mem f m).1 hm).1
  · by_cases here : m = n
    · exact .inr (.inr (congrArg some here.symm))
    · obtain free | ⟨f, there⟩ | none := accounted m shared
      · exact .inl free
      · exact .inr (.inl ⟨f, (mem f m).2 ⟨there, here⟩⟩)
      · cases none
  · rintro m ⟨⟩
    exact heldNotFree e n holds
  · rintro f m ⟨⟩ hm
    exact ((mem f n).1 hm).2 rfl

/-- A reserve line given up is free at its engine. -/
theorem settled (h : LinesParted free held (some n)) (own : ¬sharedLine n) : LinesParted free held none where
  freeOnce := h.freeOnce
  freeShared := h.freeShared
  heldOnce := h.heldOnce
  heldApart := h.heldApart
  heldNotFree := h.heldNotFree
  reserveOwn := h.reserveOwn
  accounted m shared := by
    obtain here | held | loose := h.accounted m shared
    · exact .inl here
    · exact .inr (.inl held)
    · obtain rfl := Option.some.inj loose
      exact absurd shared own
  looseNotFree := nofun
  looseNotHeld := nofun

/-- A shared line given up joins the free list. -/
theorem freed (h : LinesParted free held (some n)) (shared : sharedLine n) :
    LinesParted (free ++ [n]) held none where
  freeOnce := h.freeOnce.append (List.nodup_singleton n) (by simpa using h.looseNotFree n rfl)
  freeShared m hm := by
    obtain old | new := List.mem_append.1 hm
    · exact h.freeShared m old
    · exact List.mem_singleton.1 new ▸ shared
  heldOnce := h.heldOnce
  heldApart := h.heldApart
  heldNotFree e m hm here := by
    obtain old | new := List.mem_append.1 here
    · exact h.heldNotFree e m hm old
    · exact h.looseNotHeld e n rfl (List.mem_singleton.1 new ▸ hm)
  reserveOwn := h.reserveOwn
  accounted m shared := by
    obtain here | held | loose := h.accounted m shared
    · exact .inl (List.mem_append_left _ here)
    · exact .inr (.inl held)
    · obtain rfl := Option.some.inj loose
      exact .inl (by simp)
  looseNotFree := nofun
  looseNotHeld := nofun

end LinesParted

/-! ### Limits and the Line Wait List (R76, R80) -/

/-- Limits, lines held within them, and the engines with a LISTED request on the Line Wait List. -/
structure LimitsKept (x : EngineNo → PoolEngine) (waiting : List EngineNo) : Prop where
  most : ∀ e k, (x e).limit = some k → k.lines ≤ 32
  within : ∀ e, (x e).held.length ≤ (x e).limitLines
  listed : ∀ e, (x e).request = .listed ↔ e ∈ waiting
  waitingOnce : waiting.Nodup
  below : ∀ e ∈ waiting, (x e).held.length < (x e).limitLines

namespace LimitsKept

variable {x y : EngineNo → PoolEngine} {waiting : List EngineNo} {e : EngineNo}

/-- One engine's record changes with no LISTED request, and it leaves the Line Wait List. -/
theorem unlisted (h : LimitsKept x waiting) (others : ∀ f, e ≠ f → y f = x f)
    (request : (y e).request ≠ .listed) (most : ∀ k, (y e).limit = some k → k.lines ≤ 32)
    (within : (y e).held.length ≤ (y e).limitLines) : LimitsKept y (waiting.filter (· != e)) where
  most f := by
    by_cases here : e = f
    · exact here ▸ most
    · exact others f here ▸ h.most f
  within f := by
    by_cases here : e = f
    · exact here ▸ within
    · exact others f here ▸ h.within f
  listed f := by
    by_cases here : e = f
    · subst here
      simp [request]
    · rw [others f here, h.listed f, List.mem_filter]
      exact ⟨fun waits => ⟨waits, bne_iff_ne.2 (Ne.symm here)⟩, And.left⟩
  waitingOnce := h.waitingOnce.filter _
  below f hf := by
    obtain ⟨waits, other⟩ := List.mem_filter.1 hf
    have here : e ≠ f := Ne.symm (bne_iff_ne.1 other)
    exact others f here ▸ h.below f waits

theorem filter_of_not_mem {ws : List EngineNo} (out : e ∉ ws) : ws.filter (· != e) = ws :=
  List.filter_eq_self.2 fun f hf => by
    simp only [bne_iff_ne]
    rintro rfl
    exact out hf

/-- An engine's record changes whose request is not LISTED before or after. -/
theorem unlisted_of_not_mem (h : LimitsKept x waiting) (out : e ∉ waiting)
    (others : ∀ f, e ≠ f → y f = x f) (request : (y e).request ≠ .listed)
    (most : ∀ k, (y e).limit = some k → k.lines ≤ 32)
    (within : (y e).held.length ≤ (y e).limitLines) : LimitsKept y waiting := by
  rw [← filter_of_not_mem out]
  exact h.unlisted others request most within

/-- An engine holds fewer lines, its request and limit as they were. -/
theorem fewer (h : LimitsKept x waiting) (others : ∀ f, e ≠ f → y f = x f)
    (request : (y e).request = (x e).request) (limit : (y e).limit = (x e).limit)
    (held : (y e).held.length ≤ (x e).held.length) : LimitsKept y waiting := by
  have lines : (y e).limitLines = (x e).limitLines := by
    rw [PoolEngine.limitLines, PoolEngine.limitLines, limit]
  refine ⟨fun f => ?_, fun f => ?_, fun f => ?_, h.waitingOnce, fun f hf => ?_⟩ <;> by_cases here : e = f
  · subst here
    exact limit ▸ h.most e
  · exact others f here ▸ h.most f
  · subst here
    exact lines ▸ held.trans (h.within e)
  · exact others f here ▸ h.within f
  · subst here
    rw [request]
    exact h.listed e
  · rw [others f here]
    exact h.listed f
  · subst here
    exact lines ▸ held.trans_lt (h.below e hf)
  · exact others f here ▸ h.below f hf

/-- An engine below its limit joins the Line Wait List. -/
theorem joins (h : LimitsKept x waiting) (out : e ∉ waiting) (others : ∀ f, e ≠ f → y f = x f)
    (record : y e = { x e with request := .listed }) (room : (x e).held.length < (x e).limitLines) :
    LimitsKept y (waiting ++ [e]) := by
  refine ⟨fun f => ?_, fun f => ?_, fun f => ?_,
    h.waitingOnce.append (List.nodup_singleton e) (by simpa using out), fun f hf => ?_⟩ <;>
    by_cases here : e = f
  · subst here
    rw [record]
    exact h.most e
  · exact others f here ▸ h.most f
  · subst here
    rw [record]
    exact h.within e
  · exact others f here ▸ h.within f
  · subst here
    simp [record]
  · simp [others f here, h.listed f, Ne.symm here]
  · subst here
    rw [record]
    exact room
  · have waits : f ∈ waiting := by simpa [Ne.symm here] using hf
    exact others f here ▸ h.below f waits

end LimitsKept

/-! ### The pool's operations -/

/-- Lines in their places and limits kept, with one line perhaps loose. -/
structure State.Stocked (s : State) (loose : Option StagingLine) : Prop where
  lines : LinesParted s.pool.free (fun e => (s.poolEngine e).lines) loose
  limits : LimitsKept s.poolEngine s.pool.waiting

section
variable {s t : State} {e : EngineNo} {n : StagingLine}

theorem poolSound_iff :
    s.PoolSound ↔ s.Stocked none ∧ ∀ e, (s.poolEngine e).limit = none ↔ (s.engine e).phase = .idle := by
  constructor
  · intro h
    refine ⟨⟨⟨h.freeOnce, h.freeShared, h.heldOnce, h.heldApart, h.heldNotFree, h.reserveOwn, fun n shared => ?_,
      nofun, nofun⟩, ⟨h.most, h.within, h.listed, h.waitingOnce, h.below⟩⟩, h.limited⟩
    obtain free | held := h.accounted n shared
    · exact .inl free
    · exact .inr (.inl held)
  · rintro ⟨⟨lines, limits⟩, limited⟩
    refine ⟨lines.freeOnce, lines.freeShared, lines.heldOnce, lines.heldApart, lines.heldNotFree,
      lines.reserveOwn, fun n shared => ?_, limited, limits.most, limits.within, limits.listed,
      limits.waitingOnce, limits.below⟩
    obtain free | held | none := lines.accounted n shared
    · exact .inl free
    · exact .inr held
    · cases none

theorem State.Stocked.of_same {loose : Option StagingLine} (h : s.Stocked loose) (pool : t.pool = s.pool) :
    t.Stocked loose := by
  obtain ⟨lines, limits⟩ := h
  have record : t.poolEngine = s.poolEngine := funext (poolEngine_of_same pool)
  exact ⟨by rw [record, pool]; exact lines, by rw [record, pool]; exact limits⟩

/-- Records change, but no line changes its place. -/
theorem State.Stocked.rerecord {loose : Option StagingLine} (h : s.Stocked loose)
    (free : t.pool.free = s.pool.free) (lines : ∀ f, (t.poolEngine f).lines = (s.poolEngine f).lines)
    (limits : LimitsKept t.poolEngine t.pool.waiting) : t.Stocked loose :=
  ⟨by rw [free, funext lines]; exact h.lines, limits⟩

theorem lines_setPoolEngine (s : State) {e : EngineNo} {x : PoolEngine} (held : x.held = (s.poolEngine e).held)
    (f : EngineNo) : ((s.setPoolEngine e x).poolEngine f).lines = (s.poolEngine f).lines := by
  rw [poolEngine_setPoolEngine]
  split
  · next here => rw [← here, PoolEngine.lines, PoolEngine.lines, held]
  · rfl

theorem giveLine_poolEngine (s : State) (e : EngineNo) (n : StagingLine) (f : EngineNo) :
    (s.giveLine e n).poolEngine f =
      if e = f then
        { s.poolEngine e with
          held := (s.poolEngine e).held ++ [⟨(s.engine e).wantedLine, n⟩], request := .none }
      else s.poolEngine f := Table.row_put _ _ _ _

theorem State.Stocked.giveLine (h : s.Stocked (some n)) (may : sharedLine n ∨ n.val / 2 = e.val)
    (room : (s.poolEngine e).held.length < (s.poolEngine e).limitLines) : (s.giveLine e n).Stocked none := by
  have self := giveLine_poolEngine s e n e
  rw [if_pos rfl] at self
  have others (f : EngineNo) (other : e ≠ f) : (s.giveLine e n).poolEngine f = s.poolEngine f := by
    rw [giveLine_poolEngine, if_neg other]
  refine ⟨?_, ?_⟩
  · exact h.lines.given may (by simp [self, PoolEngine.lines]) fun f other => by rw [others f other]
  · refine h.limits.unlisted others (by simp [self]) (by rw [self]; exact h.limits.most e) ?_
    rw [self]
    simpa [PoolEngine.limitLines] using room

/-! ### Reserve lines -/

theorem not_sharedLine_reserve (e : EngineNo) :
    ¬sharedLine (reserveLow e) = true ∧ ¬sharedLine (reserveHigh e) = true := by
  revert e
  decide

theorem reserve_own (e : EngineNo) : (reserveLow e).val / 2 = e.val ∧ (reserveHigh e).val / 2 = e.val := by
  revert e
  decide

theorem PoolEngine.holds_eq_false {x : PoolEngine} (h : x.holds n = false) : n ∉ x.lines := by
  simpa [holds, lines] using h

theorem PoolEngine.freeReserve_eq_some {x : PoolEngine} (h : x.freeReserve e = some n) :
    ¬sharedLine n = true ∧ n.val / 2 = e.val ∧ n ∉ x.lines := by
  unfold freeReserve at h
  split at h
  · next low =>
    cases h
    exact ⟨(not_sharedLine_reserve e).1, (reserve_own e).1, holds_eq_false (by simpa using low)⟩
  · split at h <;> cases h
    next high =>
    exact ⟨(not_sharedLine_reserve e).2, (reserve_own e).2, holds_eq_false (by simpa using high)⟩

theorem State.Stocked.giveReserve (h : s.Stocked none) (reserve : (s.poolEngine e).freeReserve e = some n)
    (room : (s.poolEngine e).held.length < (s.poolEngine e).limitLines) : (s.giveLine e n).Stocked none := by
  obtain ⟨own, mine, out⟩ := PoolEngine.freeReserve_eq_some reserve
  have loose : s.Stocked (some n) := by
    refine ⟨h.lines.reserve own fun f hf => ?_, h.limits⟩
    obtain shared | its := h.lines.reserveOwn f n hf
    · exact own shared
    · exact out (Fin.ext (its.symm.trans mine) ▸ hf)
  exact loose.giveLine (.inr mine) room

/-! ### A request for a new line (R79) -/

theorem State.Stocked.wait (h : s.Stocked none) (unlisted : (s.poolEngine e).request ≠ .listed)
    (room : (s.poolEngine e).held.length < (s.poolEngine e).limitLines) :
    (s.setPool
      { s.pool with
        engines := s.pool.engines.put e { s.poolEngine e with request := .listed }
        waiting := s.pool.waiting ++ [e] }).Stocked none := by
  have record (f : EngineNo) := poolEngine_setPoolEngine s e f { s.poolEngine e with request := .listed }
  have limits : LimitsKept (s.setPoolEngine e { s.poolEngine e with request := .listed }).poolEngine
      (s.pool.waiting ++ [e]) :=
    h.limits.joins (fun waits => unlisted ((h.limits.listed e).2 waits))
      (fun f other => by rw [record, if_neg other]) (by rw [record, if_pos rfl]) room
  exact h.rerecord rfl (lines_setPoolEngine s rfl) limits

theorem State.Stocked.requestLine (h : s.Stocked none) (unlisted : (s.poolEngine e).request ≠ .listed) :
    (s.requestLine e).Stocked none := by
  have out : e ∉ s.pool.waiting := fun waits => unlisted ((h.limits.listed e).2 waits)
  unfold State.requestLine
  dsimp only
  split
  · have record (f : EngineNo) := poolEngine_setPoolEngine s e f { s.poolEngine e with request := .atLimit }
    exact h.rerecord rfl (lines_setPoolEngine s rfl)
      (h.limits.unlisted_of_not_mem out (fun f other => by rw [record, if_neg other]) (by simp)
        (by rw [record, if_pos rfl]; exact h.limits.most e)
        (by rw [record, if_pos rfl]; exact h.limits.within e))
  · next below =>
    have room := Nat.lt_of_not_le below
    split
    · next reserve => exact h.giveReserve reserve room
    · split
      · next n rest free =>
        split
        · have taken : (s.setPool { s.pool with free := rest }).Stocked (some n) :=
            ⟨LinesParted.taken (free ▸ h.lines), h.limits⟩
          exact taken.giveLine (.inl (h.lines.freeShared n (by simp [free]))) room
        · exact h.wait unlisted room
      · exact h.wait unlisted room

/-! ### Lines given up (R82, R83, R85) -/

theorem State.Stocked.handOver (h : s.Stocked (some n)) (shared : sharedLine n) :
    (s.handOver n).Stocked none := by
  unfold State.handOver
  split
  · next f waiter =>
    exact h.giveLine (.inl shared) (h.limits.below f (List.mem_of_find?_eq_some waiter))
  · exact ⟨h.lines.freed shared, h.limits⟩

theorem lines_filter (xs : List HeldLine) (n : StagingLine) :
    (xs.filter (fun k => k.line != n)).map (·.line) = (xs.map (·.line)).filter (· != n) := by
  rw [List.filter_map]
  rfl

/-- The engine has given up the line, which is on its way. -/
theorem State.Stocked.dropHeld (h : s.Stocked none) {x : HeldLine} (holds : x.line ∈ (s.poolEngine e).lines) :
    (s.setPoolEngine e { s.poolEngine e with
      held := (s.poolEngine e).held.filter (fun k => k.line != x.line) }).Stocked (some x.line) := by
  have record (f : EngineNo) := poolEngine_setPoolEngine s e f { s.poolEngine e with
    held := (s.poolEngine e).held.filter (fun k => k.line != x.line) }
  refine ⟨h.lines.dropped holds ?_ fun f other => by rw [record, if_neg other], h.limits.fewer (e := e)
    (fun f other => by rw [record, if_neg other]) (by rw [record, if_pos rfl]) (by rw [record, if_pos rfl])
    (by rw [record, if_pos rfl]; exact List.length_filter_le ..)⟩
  rw [record, if_pos rfl]
  exact lines_filter _ _

theorem State.Stocked.freeLine (h : s.Stocked none) {x : HeldLine} (holds : x.line ∈ (s.poolEngine e).lines) :
    (s.freeLine e x).Stocked none := by
  have dropped := h.dropHeld holds
  unfold State.freeLine
  dsimp only
  split
  · next shared => exact dropped.handOver shared
  · next own => exact ⟨dropped.lines.settled own, dropped.limits⟩

theorem giveLine_lines (s : State) (f : EngineNo) (n : StagingLine) (e : EngineNo) :
    (s.poolEngine e).lines ⊆ ((s.giveLine f n).poolEngine e).lines := by
  rw [giveLine_poolEngine]
  split
  · next here =>
    subst here
    simp [PoolEngine.lines]
  · exact List.Subset.refl _

/-- A line freed leaves its engine the others it holds. -/
theorem mem_lines_freeLine {x : HeldLine} {m : StagingLine} (holds : m ∈ (s.poolEngine e).lines)
    (other : m ≠ x.line) : m ∈ ((s.freeLine e x).poolEngine e).lines := by
  have stays : m ∈ ((s.setPoolEngine e { s.poolEngine e with
      held := (s.poolEngine e).held.filter (fun k => k.line != x.line) }).poolEngine e).lines := by
    rw [poolEngine_setPoolEngine_self, PoolEngine.lines, lines_filter]
    exact List.mem_filter.2 ⟨holds, bne_iff_ne.2 other⟩
  unfold State.freeLine State.handOver
  dsimp only
  split
  · split
    · exact giveLine_lines _ _ _ e stays
    · exact stays
  · exact stays

theorem State.Stocked.freeLines {xs : List HeldLine} (h : s.Stocked none)
    (holds : ∀ x ∈ xs, x.line ∈ (s.poolEngine e).lines) (once : (xs.map (·.line)).Nodup) :
    (s.freeLines e xs).Stocked none := by
  induction xs generalizing s with
  | nil => exact h
  | cons x xs ih =>
    obtain ⟨apart, once⟩ := List.nodup_cons.1 once
    refine ih (h.freeLine (holds x (by simp))) (fun y hy => ?_) once
    refine mem_lines_freeLine (holds y (by simp [hy])) ?_
    exact fun same => apart (List.mem_map.2 ⟨y, hy, same⟩)

/-- An engine that stands on no list gives up a line and gains none. -/
theorem freeLine_held {x : HeldLine} (out : e ∉ s.pool.waiting) :
    ((s.freeLine e x).poolEngine e).held = (s.poolEngine e).held.filter (fun k => k.line != x.line) ∧
      e ∉ (s.freeLine e x).pool.waiting := by
  have self := poolEngine_setPoolEngine_self s e { s.poolEngine e with
      held := (s.poolEngine e).held.filter (fun k => k.line != x.line) }
  unfold State.freeLine State.handOver
  dsimp only
  split
  · split
    · next f waiter =>
      have other : f ≠ e := by
        rintro rfl
        exact out (List.mem_of_find?_eq_some waiter)
      rw [giveLine_poolEngine, if_neg other, self]
      refine ⟨rfl, fun waits => out ?_⟩
      exact (List.mem_filter.1 waits).1
    · exact ⟨congrArg PoolEngine.held self, out⟩
  · exact ⟨congrArg PoolEngine.held self, out⟩

theorem freeLines_held {xs : List HeldLine} (out : e ∉ s.pool.waiting) :
    ((s.freeLines e xs).poolEngine e).held =
        (s.poolEngine e).held.filter (fun k => k.line ∉ xs.map (·.line)) ∧
      e ∉ (s.freeLines e xs).pool.waiting := by
  induction xs generalizing s with
  | nil => simpa [State.freeLines] using out
  | cons x xs ih =>
    obtain ⟨held, gone⟩ := freeLine_held (x := x) out
    obtain ⟨all, gone⟩ := ih gone
    refine ⟨all.trans ?_, gone⟩
    rw [held, List.filter_filter]
    refine List.filter_congr fun k _ => ?_
    by_cases same : k.line = x.line <;> simp [same]

theorem State.Stocked.takeUpRequest (h : s.Stocked none) (reserve : Bool) :
    (s.takeUpRequest e reserve).Stocked none := by
  unfold State.takeUpRequest
  dsimp only
  split
  · exact h
  · next request => exact h.requestLine (by simp [request])
  · next request =>
    split
    · split
      · next free => exact h.giveReserve free (h.limits.below e ((h.limits.listed e).1 request))
      · exact h
    · exact h

theorem State.Stocked.takeConfirmed (h : s.Stocked none) : (s.takeConfirmed e).Stocked none := by
  unfold State.takeConfirmed
  split
  · next w _ =>
    split
    · exact h
    · next confirmed =>
      have some_of {x : HeldLine}
          (hx : x ∈ (s.poolEngine e).held.filter fun k => w.shareConfirmed k.unitLine) :
          x.line ∈ (s.poolEngine e).lines := List.mem_map_of_mem (List.mem_of_mem_filter hx)
      refine State.Stocked.takeUpRequest (h.freeLines (fun x hx => some_of hx) ?_) _
      exact (h.lines.heldOnce e).sublist (List.filter_sublist.map _)
  · exact h

theorem dropRequest_poolEngine (s : State) (e f : EngineNo) :
    (s.dropRequest e).poolEngine f =
      if e = f then { s.poolEngine e with request := .none } else s.poolEngine f :=
  poolEngine_setPoolEngine s e f _

theorem State.Stocked.dropRequest (h : s.Stocked none) (e : EngineNo) : (s.dropRequest e).Stocked none := by
  have record := dropRequest_poolEngine s e
  exact h.rerecord rfl (lines_setPoolEngine s (e := e) (x := { s.poolEngine e with request := .none }) rfl)
    (h.limits.unlisted (e := e) (fun f other => by rw [record, if_neg other]) (by rw [record, if_pos rfl]; nofun)
      (by rw [record, if_pos rfl]; exact h.limits.most e)
      (by rw [record, if_pos rfl]; exact h.limits.within e))

/-- The engine has given up every line, and stands on no list. -/
theorem dropRequest_freeLines_held (s : State) (e : EngineNo) :
    (((s.dropRequest e).freeLines e (s.poolEngine e).held).poolEngine e).held = [] ∧
      e ∉ ((s.dropRequest e).freeLines e (s.poolEngine e).held).pool.waiting := by
  have out : e ∉ (s.dropRequest e).pool.waiting := fun waits =>
    bne_iff_ne.1 (List.mem_filter.1 waits).2 rfl
  obtain ⟨held, gone⟩ := freeLines_held (xs := (s.poolEngine e).held) out
  refine ⟨held.trans ?_, gone⟩
  rw [dropRequest_poolEngine, if_pos rfl]
  exact List.filter_eq_nil_iff.2 fun x hx => by simpa using ⟨x, hx, rfl⟩

theorem State.Stocked.releaseLines (h : s.Stocked none) (e : EngineNo) : (s.releaseLines e).Stocked none := by
  have dropped := h.dropRequest e
  have held : ((s.dropRequest e).poolEngine e).held = (s.poolEngine e).held := by
    rw [dropRequest_poolEngine, if_pos rfl]
  obtain ⟨empty, out⟩ := dropRequest_freeLines_held s e
  have freed := dropped.freeLines (e := e) (xs := (s.poolEngine e).held)
    (fun x hx => by rw [PoolEngine.lines, held]; exact List.mem_map_of_mem hx) (h.lines.heldOnce e)
  set t := (s.dropRequest e).freeLines e (s.poolEngine e).held with before
  have record (f : EngineNo) :
      (s.releaseLines e).poolEngine f = if e = f then { t.poolEngine e with limit := none } else t.poolEngine f :=
    poolEngine_setPoolEngine t e f _
  refine freed.rerecord rfl (lines_setPoolEngine t (e := e) (x := { t.poolEngine e with limit := none }) rfl)
    (freed.limits.unlisted_of_not_mem out (fun f other => by rw [record, if_neg other]) ?_ ?_ ?_) <;>
    rw [record, if_pos rfl]
  · exact fun listed => out ((freed.limits.listed e).1 listed)
  · nofun
  · simp [empty]

/-! ### Limits of single engines -/

theorem poolLimit_setPoolEngine (s : State) {e : EngineNo} {x : PoolEngine}
    (limit : x.limit = (s.poolEngine e).limit) (f : EngineNo) :
    ((s.setPoolEngine e x).poolEngine f).limit = (s.poolEngine f).limit := by
  rw [poolEngine_setPoolEngine]
  split
  · next here => rw [← here, limit]
  · rfl

theorem poolLimit_giveLine (s : State) (e : EngineNo) (n : StagingLine) (f : EngineNo) :
    ((s.giveLine e n).poolEngine f).limit = (s.poolEngine f).limit := by
  rw [giveLine_poolEngine]
  split
  · next here => rw [← here]
  · rfl

theorem poolLimit_requestLine (s : State) (e f : EngineNo) :
    ((s.requestLine e).poolEngine f).limit = (s.poolEngine f).limit := by
  have listed := poolLimit_setPoolEngine s (e := e) (x := { s.poolEngine e with request := .listed }) rfl f
  unfold State.requestLine
  dsimp only
  split
  · exact poolLimit_setPoolEngine s (x := { s.poolEngine e with request := .atLimit }) rfl f
  · split
    · exact poolLimit_giveLine s e _ f
    · split
      · split
        · exact poolLimit_giveLine _ e _ f
        · exact listed
      · exact listed

theorem poolLimit_freeLine (s : State) (e : EngineNo) (x : HeldLine) (f : EngineNo) :
    ((s.freeLine e x).poolEngine f).limit = (s.poolEngine f).limit := by
  have dropped := poolLimit_setPoolEngine s (e := e) (x := { s.poolEngine e with
    held := (s.poolEngine e).held.filter (fun k => k.line != x.line) }) rfl f
  unfold State.freeLine State.handOver
  dsimp only
  split
  · split
    · rw [poolLimit_giveLine]
      exact dropped
    · exact dropped
  · exact dropped

theorem poolLimit_freeLines (s : State) (e : EngineNo) (xs : List HeldLine) (f : EngineNo) :
    ((s.freeLines e xs).poolEngine f).limit = (s.poolEngine f).limit :=
  foldl_keeps (P := fun t => (t.poolEngine f).limit = (s.poolEngine f).limit)
    (fun t x h => (poolLimit_freeLine t e x f).trans h) xs rfl

theorem poolLimit_takeUpRequest (s : State) (e : EngineNo) (b : Bool) (f : EngineNo) :
    ((s.takeUpRequest e b).poolEngine f).limit = (s.poolEngine f).limit := by
  unfold State.takeUpRequest
  dsimp only
  split
  · rfl
  · exact poolLimit_requestLine _ e f
  · split
    · split
      · exact poolLimit_giveLine _ e _ f
      · rfl
    · rfl

theorem poolLimit_takeConfirmed (s : State) (e f : EngineNo) :
    ((s.takeConfirmed e).poolEngine f).limit = (s.poolEngine f).limit := by
  unfold State.takeConfirmed
  split
  · split
    · rfl
    · exact (poolLimit_takeUpRequest _ e _ f).trans (poolLimit_freeLines s e _ f)
  · rfl

theorem poolLimit_dropRequest (s : State) (e f : EngineNo) :
    ((s.dropRequest e).poolEngine f).limit = (s.poolEngine f).limit := by
  rw [dropRequest_poolEngine]
  split
  · next here => rw [← here]
  · rfl

theorem poolLimit_releaseLines (s : State) (e f : EngineNo) :
    ((s.releaseLines e).poolEngine f).limit = if e = f then none else (s.poolEngine f).limit := by
  unfold State.releaseLines
  dsimp only
  rw [poolEngine_setPoolEngine]
  split
  · rfl
  · rw [poolLimit_freeLines, poolLimit_dropRequest]

/-! ### IDLE engines through the pool's operations -/

/-- The engines that are IDLE. -/
def State.rests (s : State) (e : EngineNo) : Prop := (s.engine e).phase = .idle

theorem rests_setEngine (s : State) {e : EngineNo} {g : Engine}
    (same : g.phase = .idle ↔ s.rests e) : (s.setEngine e g).rests = s.rests := by
  funext f
  unfold State.rests
  rw [engine_setEngine]
  split
  · next here => exact propext (here ▸ same)
  · rfl

theorem givenRoom_idle (g : Engine) : g.givenRoom.phase = .idle ↔ g.phase = .idle := by
  unfold Engine.givenRoom
  split <;> simp_all

theorem rests_room (s t : State) (e : EngineNo) (h : t.rests = s.rests) :
    (t.setEngine e (t.engine e).givenRoom).rests = s.rests :=
  (rests_setEngine t (givenRoom_idle _)).trans h

theorem rests_requestLine (s : State) (e : EngineNo) : (s.requestLine e).rests = s.rests :=
  requestLine_keeps (P := fun t => t.rests = s.rests) (fun _ _ h => h) (rests_room s) e rfl

theorem rests_takeConfirmed (s : State) (e : EngineNo) : (s.takeConfirmed e).rests = s.rests :=
  takeConfirmed_keeps (P := fun t => t.rests = s.rests) (fun _ _ h => h) (rests_room s) e rfl

theorem rests_releaseLines (s : State) (e : EngineNo) : (s.releaseLines e).rests = s.rests :=
  releaseLines_keeps (P := fun t => t.rests = s.rests) (fun _ _ h => h) (rests_room s) e rfl

/-! ### The whole pool -/

theorem State.PoolSound.through (h : s.PoolSound) (stocked : t.Stocked none)
    (limits : ∀ f, (t.poolEngine f).limit = (s.poolEngine f).limit) (rests : t.rests = s.rests) :
    t.PoolSound := by
  refine poolSound_iff.2 ⟨stocked, fun f => ?_⟩
  rw [limits, (poolSound_iff.1 h).2 f]
  exact Iff.of_eq (congrFun rests f).symm

theorem State.PoolSound.stocked (h : s.PoolSound) : s.Stocked none := (poolSound_iff.1 h).1

theorem State.PoolSound.limit_none (h : s.PoolSound) (e : EngineNo) :
    (s.poolEngine e).limit = none ↔ s.rests e := (poolSound_iff.1 h).2 e

/-- An engine starts a unit with its limit set, and no line (R76). -/
theorem State.PoolSound.startUnit (h : s.PoolSound) (w : Work) (idle : s.rests e) :
    (s.startUnit e w).PoolSound := by
  have absent := (h.limit_none e).2 idle
  have zero : (s.poolEngine e).limitLines = 0 := by rw [PoolEngine.limitLines, absent]
  have empty : (s.poolEngine e).held.length = 0 := by
    have := h.within e
    omega
  have out : e ∉ s.pool.waiting := fun waits => by
    have := h.below e waits
    omega
  have most : w.readAhead.limit.lines ≤ 32 := by cases w.readAhead <;> decide
  have record (f : EngineNo) : (s.startUnit e w).poolEngine f = _ := poolEngine_setPoolEngine s e f
    { s.poolEngine e with limit := some w.readAhead.limit, request := .none }
  have others (f : EngineNo) (other : e ≠ f) : (s.startUnit e w).poolEngine f = s.poolEngine f := by
    rw [record, if_neg other]
  have self := record e
  rw [if_pos rfl] at self
  refine poolSound_iff.2 ⟨?_, fun f => ?_⟩
  · refine h.stocked.rerecord rfl (lines_setPoolEngine s (e := e)
      (x := { s.poolEngine e with limit := some w.readAhead.limit, request := .none }) rfl)
      (h.stocked.limits.unlisted_of_not_mem out others ?_ ?_ ?_) <;> rw [self]
    · nofun
    · rintro k ⟨⟩
      exact most
    · exact empty ▸ Nat.zero_le _
  · have engine : (s.startUnit e w).engine f = _ := engine_setEngine _ e f _
    by_cases here : e = f
    · subst here
      rw [self, engine, if_pos rfl]
      exact ⟨nofun, nofun⟩
    · rw [others f here, engine, if_neg here]
      exact h.limit_none f

theorem reset_poolSound : State.reset.PoolSound := by
  have engine (e : EngineNo) : State.reset.engine e = .idle := Table.row_fill _ _
  have record (e : EngineNo) : State.reset.poolEngine e = .idle := Table.row_fill _ _
  have free : State.reset.pool.free = (List.finRange 128).drop 8 := rfl
  have shared (n : StagingLine) : n ∈ (List.finRange 128).drop 8 ↔ sharedLine n = true := by
    rw [List.mem_iff_getElem]
    constructor
    · rintro ⟨i, hi, rfl⟩
      simp [sharedLine]
    · intro eight
      have eight : 8 ≤ n.val := of_decide_eq_true eight
      exact ⟨n.val - 8, by simp; omega, by ext; simp; omega⟩
  have waiting : State.reset.pool.waiting = [] := rfl
  refine poolSound_iff.2 ⟨⟨⟨?_, fun n => ?_, ?_, ?_, ?_, ?_, fun n here => ?_, nofun, nofun⟩, ⟨?_, ?_, ?_, ?_, ?_⟩⟩,
    ?_⟩
  · exact (List.nodup_finRange 128).sublist (List.drop_sublist _ _)
  · rw [free]
    exact (shared n).1
  all_goals try simp [record, engine, waiting, PoolEngine.idle, PoolEngine.lines, Engine.idle]
  exact free ▸ (shared n).2 here

theorem poolOps : EngineOps State.PoolSound where
  same s t engines pool h := by
    refine h.through (h.stocked.of_same pool) (fun f => by rw [poolEngine_of_same pool]) ?_
    funext f
    rw [State.rests, State.rests, engine_of_same engines]
  write s e g same h := h.through (h.stocked.of_same rfl) (fun _ => rfl) (rests_setEngine s same)
  store s x h := h.through ⟨h.stocked.lines, h.stocked.limits⟩ (fun _ => rfl) rfl
  request s e unlisted h :=
    h.through (h.stocked.requestLine unlisted) (poolLimit_requestLine s e) (rests_requestLine s e)
  confirmed s e h := h.through h.stocked.takeConfirmed (poolLimit_takeConfirmed s e) (rests_takeConfirmed s e)
  drop s e h := h.through (h.stocked.dropRequest e) (poolLimit_dropRequest s e) rfl
  release s e idle h := by
    refine h.through (h.stocked.releaseLines e) (fun f => ?_) (rests_releaseLines s e)
    rw [poolLimit_releaseLines]
    split
    · next here => exact here ▸ ((h.limit_none e).2 idle).symm
    · rfl
  retire s e h := by
    refine poolSound_iff.2 ⟨(h.stocked.releaseLines e).of_same rfl, fun f => ?_⟩
    have limit : (((s.releaseLines e).setEngine e .idle).poolEngine f).limit = _ :=
      poolLimit_releaseLines s e f
    rw [limit, engine_setEngine]
    split
    · exact ⟨fun _ => rfl, fun _ => rfl⟩
    · rw [h.limit_none f]
      exact Iff.of_eq (congrFun (rests_releaseLines s e) f).symm
  start _ _ w idle h := h.startUnit w idle
  reset := reset_poolSound

/-! ### What an offer is (R55, R56, R57) -/

theorem offer_none_of_not_running {g : Engine} {d : Domain} (idle : ∀ w, g.phase ≠ .running w) :
    g.offerAt d = none := by
  unfold Engine.offerAt
  split
  · next w running => exact absurd running (idle w)
  · rfl

theorem offer_none_of_admission {g : Engine} {d : Domain} (under : g.admission.get d ≠ none) :
    g.offerAt d = none := by
  unfold Engine.offerAt
  split
  · rw [if_pos (Option.isSome_iff_ne_none.2 under)]
  · rfl

theorem readyWrite_eq (w : Work) :
    w.readyWrite =
      if w.writePos < w.writes ∧
          ((w.write w.writePos).first + (w.write w.writePos).elems) * w.size.bytes ≤ w.readBytes then
        some (w.write w.writePos)
      else none := by
  simp [Work.readyWrite]

theorem readyRead_eq (w : Work) :
    w.readyRead = if w.readPos < w.reads ∧ w.room = true then some (w.read w.readPos) else none := by
  simp [Work.readyRead, and_comm]

/-- The write before the read, each when it is ready at its domain. -/
theorem offer_of_running {g : Engine} {d : Domain} {w : Work} (running : g.phase = .running w)
    (none_under : g.admission.get d = none) :
    g.offerAt d =
      if w.dst.domain = d ∧ w.writePos < w.writes ∧
          ((w.write w.writePos).first + (w.write w.writePos).elems) * w.size.bytes ≤ w.readBytes then
        some (w.write w.writePos)
      else if w.src.domain = d ∧ w.readPos < w.reads ∧ w.room = true then some (w.read w.readPos)
      else none := by
  unfold Engine.offerAt
  simp only [running, none_under, readyWrite_eq, readyRead_eq, Option.isSome_none, Bool.false_eq_true, if_false]
  by_cases dst : w.dst.domain = d
  · by_cases ready : w.writePos < w.writes ∧
        ((w.write w.writePos).first + (w.write w.writePos).elems) * w.size.bytes ≤ w.readBytes
    · simp only [dst, ready, and_self, if_true]
    · simp only [dst, ready, true_and, if_true, if_false, ite_and]
  · simp only [dst, false_and, if_false, ite_and]

end

end Sys2Proof.Machine

open Sys2Proof Sys2Proof.Machine

/-- Settles O9: each operation of the pool moves a line from one place to one other, and every write of an
engine writes its offers with it. -/
theorem stagingLinesStayPartitioned : Obligations.StagingLinesStayPartitioned := by
  refine ⟨fun s t ran => ⟨poolOps.step ran, offersOps.step ran⟩, fun s e d sound => ?_⟩
  dsimp only
  rw [sound e d]
  refine ⟨offer_none_of_not_running, offer_none_of_admission, fun w running none_under => ?_⟩
  rw [offer_of_running running none_under]
  exact ⟨fun ready => if_pos ready, fun busy ready => (if_neg busy).trans (if_pos ready),
    fun busy idle => (if_neg busy).trans (if_neg idle)⟩

end

section
/-! PROOFS. The state after power-on reset, block by block. -/

namespace Sys2Proof.Machine

/-- The hub after reset with inputs, clock, free values and schedule as given. -/
def State.afterReset (s : State) : State :=
  { State.reset with
    req := s.req, prst := s.prst, clock := s.clock, freeCount := s.freeCount, pending := s.pending }

section
variable (s : State)

theorem afterReset_reset : State.reset.afterReset = State.reset := rfl

theorem exec_powerOnReset : exec .powerOnReset s = .next s.afterReset := rfl

theorem afterReset_channel (ch : ChannelNo) : s.afterReset.channel ch = .free := Table.row_fill _ _

theorem afterReset_line (l : LineNo) : s.afterReset.line l = ⟨.unmapped, none, 0⟩ := Table.row_fill _ _

theorem afterReset_engine (e : EngineNo) : s.afterReset.engine e = .idle := Table.row_fill _ _

theorem afterReset_poolEngine (e : EngineNo) : s.afterReset.poolEngine e = .idle := Table.row_fill _ _

theorem afterReset_aperture (d : Domain) (i : ApertureNo) :
    s.afterReset.aperture d i = ⟨.closed, none, 0, 0⟩ := by
  cases d <;> exact Table.row_fill _ _

theorem afterReset_master (d : Domain) : s.afterReset.master d = .reset := by
  cases d <;> rfl

theorem afterReset_noticeUnit (p : Port) : s.afterReset.noticeUnit p = .reset := by
  cases p <;> rfl

theorem afterReset_port (p : Port) : s.afterReset.port p = .reset := by
  cases p <;> rfl

theorem afterReset_ackLevel (l : LineNo) : ackLevel s.afterReset l = false := by
  rw [ackLevel, show s.afterReset.lines.row l = ⟨.unmapped, none, 0⟩ from afterReset_line s l]
  rfl

theorem afterReset_intLevel (p : Port) : intLevel s.afterReset p = false := by
  rw [intLevel, show s.afterReset.notices.get p = .reset from afterReset_noticeUnit s p]
  rfl

/-- Lines 8 to 127, in order (Table 4-1). -/
theorem reset_free : Pool.reset.free.map (fun x => x.val) = List.range' 8 120 := by
  apply List.ext_getElem
  · simp [Pool.reset]
  · intro i _ _
    simp [Pool.reset]

end

theorem reset_recordsSound : State.reset.RecordsSound := (reset_inStep false).1

theorem reset_offersSound : State.reset.OffersSound := offersOps.reset

theorem reset_noticesSound : State.reset.NoticesSound := fun p => by
  rw [← afterReset_reset, afterReset_noticeUnit]
  constructor <;> simp [NoticeUnit.reset, sequenced]

end Sys2Proof.Machine

open Sys2Proof Sys2Proof.Machine

/-- Settles O5: power-on reset makes the state of Machine/State.lean, which has these values. -/
theorem powerOnResetValues : Obligations.PowerOnResetValues := by
  intro s
  refine ⟨s.afterReset, exec_powerOnReset s, fun u member => ?_⟩
  obtain ⟨r, rfl⟩ : ∃ r : State, u = r.afterReset := by
    obtain rfl | rfl : u = s.afterReset ∨ u = State.reset := by simpa using member
    · exact ⟨s, rfl⟩
    · exact ⟨State.reset, rfl⟩
  refine ⟨afterReset_channel r, rfl, fun l => ?_, fun e => ?_, afterReset_poolEngine r, rfl, reset_free,
    afterReset_aperture r, afterReset_master r, fun p => ⟨afterReset_noticeUnit r p, afterReset_intLevel r p⟩,
    fun p => ?_, rfl⟩
  · rw [afterReset_line]
    exact ⟨rfl, rfl, afterReset_ackLevel r l⟩
  · rw [afterReset_engine]
    refine ⟨rfl, rfl, fun d => ?_⟩
    cases d <;> exact ⟨rfl, rfl⟩
  · rw [afterReset_port]
    exact ⟨rfl, rfl, rfl, rfl, rfl, Table.row_fill _, Table.row_fill _⟩

/-- Settles O6: block by block, each invariant begins with the value its block has after reset. -/
theorem resetIsSound : Obligations.ResetIsSound :=
  ⟨reset_recordsSound, reset_linesSound, reset_offersSound, reset_poolSound,
    ⟨reset_busesSound, reset_usersSound⟩, reset_noticesSound, reset_parkingSound, reset_unitsSound⟩

end

section
/-! PROOFS. The registers of a window through every command: what its own host writes, and what an answer to
its BUSY unit writes (R159, R161, R162). -/

namespace Sys2Proof.Machine

section
variable {s t u : State}

/-! ### The interrupt enable (R145) -/

/-- The enable copy of each port. -/
def State.enables (s : State) (p : Port) : Bool := (s.noticeUnit p).enable

theorem enables_of_same (h : t.notices = s.notices) : t.enables = s.enables :=
  funext fun p => congrArg NoticeUnit.enable (noticeUnit_of_same h p)

theorem enables_setNoticeUnit (s : State) {p : Port} {x : NoticeUnit}
    (same : x.enable = (s.noticeUnit p).enable) : (s.setNoticeUnit p x).enables = s.enables := by
  funext q
  unfold State.enables
  rw [noticeUnit_setNoticeUnit]
  split
  · next here => rw [← here, same]
  · rfl

theorem enables_freeChannel (s : State) (ch : ChannelNo) : (s.freeChannel ch).enables = s.enables := by
  funext p
  unfold State.enables
  rw [freeChannel_noticeUnit]
  split <;> rfl

theorem enables_concludeUnit (s : State) (ch : ChannelNo) (notice : Option ChannelNotice)
    (next : AfterState) : (s.concludeUnit ch notice next).enables = s.enables := by
  obtain e | ⟨p, n, -, -, ⟨-, e⟩ | e⟩ := concludeUnit_cases s ch notice next <;> rw [e]
  · exact enables_of_same (by simp [State.enterNext])
  · refine Eq.trans (enables_of_same (by simp [State.enterNext])) (enables_setNoticeUnit s (p := p)
      (x := (s.noticeUnit p).enter (.channel n) 1) ?_)
    rfl
  · refine Eq.trans (enables_of_same (by simp [State.park])) (enables_setNoticeUnit s (p := p)
      (x := { s.noticeUnit p with parking := (s.noticeUnit p).parking ++ [⟨ch, n⟩] }) ?_)
    rfl

theorem enables_unitEnd (s : State) (ch : ChannelNo) (r : Progress) (o : Origin) :
    (s.unitEnd ch r o).enables = s.enables := by
  unfold State.unitEnd
  dsimp only
  split
  · rfl
  · exact (enables_concludeUnit _ ch _ _).trans (enables_of_same (by simp))

theorem enables_stopUnit (s : State) (ch : ChannelNo) (r : Progress) (c : StopCause) :
    (s.stopUnit ch r c).enables = s.enables := by
  unfold State.stopUnit
  dsimp only
  split
  · unfold State.freeStopped
    split
    · exact (enables_of_same (by simp)).trans (enables_freeChannel s ch)
    · exact enables_freeChannel s ch
  · split
    · rfl
    · exact (enables_concludeUnit _ ch _ _).trans (enables_of_same (by simp))

theorem enables_tearDownChannel (s : State) (p : Port) (ch : ChannelNo) :
    (s.tearDownChannel p ch).enables = s.enables := by
  unfold State.tearDownChannel
  dsimp only
  split
  · split
    · exact enables_of_same (by simp)
    · exact enables_of_same (by simp)
    · exact enables_freeChannel s ch
  · rfl

theorem NoticeUnit.refill_enable (x : NoticeUnit) : x.refill.1.enable = x.enable := by
  unfold refill
  repeat' split
  all_goals rfl

theorem NoticeUnit.placeSystem_enable (x : NoticeUnit) (n : SystemNotice) :
    (x.placeSystem n).enable = x.enable := by
  unfold placeSystem
  repeat' split
  all_goals rfl

theorem enables_popNoticeAct (p : Port) (a : Table Word 8) (s : State) :
    (popNoticeAct p a s).2.enables = s.enables := by
  unfold popNoticeAct
  dsimp only
  split
  · rfl
  · split
    · rfl
    · next x xs _ =>
      have popped := enables_setNoticeUnit s (p := p)
        (NoticeUnit.refill_enable { s.noticeUnit p with queue := xs })
      split
      · exact (enables_of_same (by simp)).trans popped
      · exact popped

theorem enables_releaseAct (p : Port) (a : Table Word 8) (s : State) :
    (releaseAct p a s).2.enables = s.enables := by
  unfold releaseAct
  split
  · rfl
  · split
    iterate 3 exact enables_freeChannel s _
    rfl

theorem exec_enables {c : Instr} (ran : exec c s = .next t) (reset : c ≠ .powerOnReset) {p : Port}
    (other : ∀ v, c ≠ .intenWrite p v) : t.enables p = s.enables p := by
  by_cases writes : Block.notices ∈ writesOf c
  · cases c with
    | release q =>
      cases ran
      exact congrFun (ownerTakes_keeps (P := fun u => u.enables = s.enables) (fun _ _ h => h) (fun _ _ h => h)
        (fun a u h => (enables_releaseAct q a u).trans h) rfl) p
    | popNotice q =>
      cases ran
      exact congrFun (ownerTakes_keeps (P := fun u => u.enables = s.enables) (fun _ _ h => h) (fun _ _ h => h)
        (fun a u h => (enables_popNoticeAct q a u).trans h) rfl) p
    | channelTableTeardown q =>
      change execChannelTableTeardown q s = .next t at ran
      unfold execChannelTableTeardown at ran
      dsimp only at ran
      split at ran <;> cases ran
      · have torn := foldl_keeps (P := fun u => u.enables = s.enables)
          (fun u ch h => (enables_tearDownChannel u q ch).trans h) (List.finRange 64)
          (s := (s.setDirections q
            { s.wires.directions.get q with channelTable := false }).setTableClearing q true) rfl
        exact congrFun ((enables_of_same (by simp)).trans torn) p
      · rfl
    | unitEndReport ch =>
      change execUnitEndReport ch s = .next t at ran
      unfold execUnitEndReport at ran
      split at ran
      · next taken =>
        obtain ⟨rest, rfl⟩ := takeReport_eq taken
        split at ran <;> cases ran
        · exact congrFun (enables_unitEnd _ ch _ _) p
        · exact congrFun (enables_stopUnit _ ch _ _) p
        · rfl
      · cases ran
        rfl
    | stopReport ch =>
      change execStopReport ch s = .next t at ran
      unfold execStopReport at ran
      split at ran
      · next taken =>
        obtain ⟨rest, rfl⟩ := takeReport_eq taken
        split at ran <;> cases ran
        · exact congrFun (enables_stopUnit _ ch _ _) p
        · rfl
      · cases ran
        rfl
    | intenWrite q v =>
      change execIntenWrite q v s = .next t at ran
      unfold execIntenWrite at ran
      split at ran <;> cases ran
      · rfl
      · have apart : q ≠ p := fun same => other v (same ▸ rfl)
        exact congrArg NoticeUnit.enable ((noticeUnit_setNoticeUnit s q p _).trans (if_neg apart))
    | systemNoticePosting q n =>
      change execSystemNoticePosting q n s = .next t at ran
      unfold execSystemNoticePosting at ran
      split at ran <;> cases ran
      · unfold State.takePosting
        split
        · exact congrFun (enables_setNoticeUnit _ (NoticeUnit.placeSystem_enable _ _)) p
        · rfl
      · rfl
    | noticeUnitClear q =>
      change execNoticeUnitClear q s = .next t at ran
      unfold execNoticeUnitClear at ran
      dsimp only at ran
      split at ran <;> cases ran
      · exact congrFun (enables_setNoticeUnit (s.setDirections q _)
          (x := ((s.setDirections q _).noticeUnit q).cleared) rfl) p
      · rfl
    | powerOnReset => exact absurd rfl reset
    | _ => simp at writes
  · exact congrFun (enables_of_same (exec_frame ran .notices writes)) p

/-! ### The Port Command Unit's registers -/

/-- Arguments and CMD stay, a latched command stays or goes, and the results stay with it. -/
structure PortUnit.Keeps (u v : PortUnit) : Prop where
  args : v.args = u.args
  cmd : v.cmd = u.cmd
  latched : v.latched = u.latched ∨ v.latched = none
  results : v.latched = u.latched → v.res = u.res ∧ v.result = u.result

theorem PortUnit.Keeps.refl (u : PortUnit) : u.Keeps u := ⟨rfl, rfl, .inl rfl, fun _ => ⟨rfl, rfl⟩⟩

theorem PortUnit.Keeps.trans {u v w : PortUnit} (h : u.Keeps v) (k : v.Keeps w) : u.Keeps w where
  args := k.args.trans h.args
  cmd := k.cmd.trans h.cmd
  latched := by
    obtain same | gone := k.latched
    · exact same ▸ h.latched
    · exact .inr gone
  results still := by
    have middle : v.latched = u.latched := by
      obtain same | gone := h.latched
      · exact same
      · obtain same | gone' := k.latched
        · exact same.symm.trans still
        · exact gone.trans (gone'.symm.trans still)
    obtain ⟨res, result⟩ := h.results middle
    obtain ⟨res', result'⟩ := k.results (still.trans middle.symm)
    exact ⟨res'.trans res, result'.trans result⟩

/-- No register of a window is written but by an answer to its BUSY unit. -/
def State.KeepsWindows (s t : State) : Prop := ∀ p, (s.port p).Keeps (t.port p)

theorem State.KeepsWindows.trans (h : s.KeepsWindows t) (k : t.KeepsWindows u) : s.KeepsWindows u :=
  fun p => (h p).trans (k p)

/-- Hand-offs hold no register. -/
theorem keepsWindows_after_wires {w : Wires} (h : (s.setWires w).KeepsWindows t) : s.KeepsWindows t := h

theorem keepsWindows_of_same (h : t.ports = s.ports) : s.KeepsWindows t := fun p => by
  rw [port_of_same h]
  exact .refl _

theorem keepsWindows_setPort (s : State) {p : Port} {x : PortUnit} (keeps : (s.port p).Keeps x) :
    s.KeepsWindows (s.setPort p x) := fun q => by
  rw [port_setPort]
  split
  · next here => exact here ▸ keeps
  · exact .refl _

theorem keepsWindows_setSession (s : State) (p : Port) (x : Session) :
    s.KeepsWindows (s.setSession p x) :=
  keepsWindows_setPort s ⟨rfl, rfl, .inl rfl, fun _ => ⟨rfl, rfl⟩⟩

theorem keepsWindows_writeAnswer (s : State) (p : Port) (a : Answer) :
    s.KeepsWindows (s.writeAnswer p a) := by
  unfold State.writeAnswer
  dsimp only
  split
  · next l busy =>
    split
    · refine keepsWindows_setPort s ⟨rfl, rfl, .inr rfl, fun still => ?_⟩
      cases still.trans busy
    · exact keepsWindows_of_same rfl
  · exact keepsWindows_of_same rfl

theorem unitTakes_keepsWindows {picks : Latched → Bool} {act : Act} {p : Port}
    (effect : ∀ a u, State.KeepsWindows u (act p a u).2) (s : State) :
    s.KeepsWindows (unitTakes picks act p s) :=
  unitTakes_keeps (P := s.KeepsWindows) (fun _ _ h => h)
    (fun t a h => h.trans (keepsWindows_writeAnswer t p a)) (fun a u h => h.trans (effect a u))
    (keepsWindows_of_same rfl)

theorem apertureTakes_keepsWindows {c : Command} {act : Domain → Act} {p : Port}
    (effect : ∀ d a u, (act d p a u).2.ports = u.ports) (s : State) :
    s.KeepsWindows (apertureTakes c act p s) :=
  apertureTakes_keeps (P := s.KeepsWindows) (fun _ _ h => h) (fun _ _ h => h)
    (fun t a h => h.trans (keepsWindows_writeAnswer t p a))
    (fun d a u h => h.trans (keepsWindows_of_same (effect d a u))) (keepsWindows_of_same rfl)

theorem startTeardown_keepsWindows (s : State) (p : Port) (c : TeardownCause) :
    s.KeepsWindows (s.startTeardown p c) :=
  keepsWindows_setPort s ⟨rfl, rfl, .inl rfl, fun _ => ⟨rfl, rfl⟩⟩

theorem takePart_keepsWindows (s : State) (p : Port) (x : EnginesPart) :
    s.KeepsWindows (s.takePart p x) := by
  unfold State.takePart
  dsimp only
  split
  · exact keepsWindows_of_same rfl
  · split
    · split
      · exact keepsWindows_setPort s ⟨rfl, rfl, .inl rfl, fun _ => ⟨rfl, rfl⟩⟩
      · refine State.KeepsWindows.trans (keepsWindows_setPort s ?_) (keepsWindows_writeAnswer _ p _)
        exact ⟨rfl, rfl, .inl rfl, fun _ => ⟨rfl, rfl⟩⟩
    · exact keepsWindows_of_same rfl

theorem resetSession_keepsWindows (s : State) (p : Port) : s.KeepsWindows (s.resetSession p) := by
  unfold State.resetSession
  split
  · exact startTeardown_keepsWindows s p .reset
  · split
    · exact (keepsWindows_setSession s p _).trans (keepsWindows_of_same rfl)
    · exact keepsWindows_of_same rfl
  · exact keepsWindows_of_same rfl

theorem freezeWindow_keepsWindows (s : State) (p : Port) : s.KeepsWindows (s.freezeWindow p) :=
  keepsWindows_setPort s ⟨rfl, rfl, .inr rfl, fun _ => ⟨rfl, rfl⟩⟩

theorem markField_keepsWindows (s : State) (p : Port) (f : TeardownField) :
    s.KeepsWindows (s.markField p f) := by
  unfold State.markField
  split
  · split <;> exact keepsWindows_setSession s p _
  · exact keepsWindows_of_same rfl

theorem queryApertureAct_ports (d : Domain) (q : Port) (a : Table Word 8) (s : State) :
    (queryApertureAct d q a s).2.ports = s.ports := by
  unfold queryApertureAct
  dsimp only
  repeat' split
  all_goals rfl

/-- The commands that write a window otherwise: the host's writes of CMD and of an argument register. -/
def writesWindow : Instr → Bool
  | .commandLatch _ _ | .cmdWriteDropped _ _ | .registerWrite _ _ _ | .powerOnReset => true
  | _ => false

theorem exec_keepsWindows {c : Instr} (ran : exec c s = .next t) (other : writesWindow c = false) :
    s.KeepsWindows t := by
  by_cases writes : Block.ports ∈ writesOf c
  · cases c with
    | announce p =>
      cases ran
      refine unitTakes_keepsWindows (fun a u => ?_) s
      unfold announceAct
      split
      · exact (keepsWindows_setSession u p .online).trans (keepsWindows_of_same rfl)
      · exact keepsWindows_of_same rfl
      · exact keepsWindows_of_same rfl
    | detach p =>
      cases ran
      refine unitTakes_keepsWindows (fun a u => ?_) s
      unfold detachAct
      split
      · exact startTeardown_keepsWindows u p .detach
      · exact keepsWindows_of_same rfl
      · exact keepsWindows_of_same rfl
    | unknownCommandCode p =>
      cases ran
      exact unitTakes_keepsWindows (fun _ _ => keepsWindows_of_same rfl) s
    | commandAnswer p n =>
      change execCommandAnswer p n s = .next t at ran
      unfold execCommandAnswer at ran
      split at ran <;> cases ran
      · exact keepsWindows_after_wires (keepsWindows_writeAnswer _ p _)
      · exact keepsWindows_of_same rfl
    | pstatWrite p v =>
      change execPstatWrite p v s = .next t at ran
      unfold execPstatWrite at ran
      split at ran <;> cases ran
      · exact keepsWindows_setPort s ⟨rfl, rfl, .inl rfl, fun _ => ⟨rfl, rfl⟩⟩
      · exact keepsWindows_of_same rfl
    | teardownReport p f =>
      change execTeardownReport p f s = .next t at ran
      unfold execTeardownReport at ran
      split at ran <;> cases ran
      · exact keepsWindows_after_wires (markField_keepsWindows _ p f)
      · exact keepsWindows_of_same rfl
    | readEngines p g =>
      change execReadEngines p g s = .next t at ran
      unfold execReadEngines at ran
      split at ran
      · split at ran
        · split at ran <;> cases ran
          · exact keepsWindows_setPort s ⟨rfl, rfl, .inl rfl, fun _ => ⟨rfl, rfl⟩⟩
          · exact keepsWindows_of_same rfl
        · cases ran
          exact keepsWindows_of_same rfl
      · split at ran <;> cases ran
        · exact keepsWindows_after_wires (takePart_keepsWindows _ p _)
        · exact keepsWindows_of_same rfl
    | openAperture p =>
      cases ran
      exact apertureTakes_keepsWindows (fun d a u => openApertureAct_ports d p a u) s
    | revokeAperture p =>
      cases ran
      exact apertureTakes_keepsWindows (fun d a u => revokeApertureAct_ports d p a u) s
    | queryAperture p =>
      cases ran
      exact apertureTakes_keepsWindows (fun d a u => queryApertureAct_ports d p a u) s
    | prstxAsserted p =>
      change execPrstxAsserted p s = .next t at ran
      unfold execPrstxAsserted at ran
      split at ran <;> cases ran
      · exact keepsWindows_of_same rfl
      · let u : State := { s with prst := s.prst.set p true }
        have frozen : u.KeepsWindows (u.freezeWindow p) := freezeWindow_keepsWindows u p
        exact frozen.trans (resetSession_keepsWindows _ p)
    | commandLatch | cmdWriteDropped | registerWrite | powerOnReset => simp [writesWindow] at other
    | _ => simp at writes
  · exact keepsWindows_of_same (exec_frame ran .ports writes)

/-! ### The host's writes of CMD and of an argument register -/

/-- A write of CMD leaves arguments and results, of its own window and of the other (R160, R162). -/
theorem writeCmd_port (s : State) (q : Port) (code : Word) (p : Port) :
    ((s.writeCmd q code).port p).args = (s.port p).args ∧
      ((s.writeCmd q code).port p).res = (s.port p).res ∧
      ((s.writeCmd q code).port p).result = (s.port p).result ∧
      (q ≠ p → ((s.writeCmd q code).port p).cmd = (s.port p).cmd) := by
  have wrote {x : PortUnit} {v : State} (v_port : v.port p = if q = p then x else s.port p)
      (args : x.args = (s.port q).args) (res : x.res = (s.port q).res)
      (result : x.result = (s.port q).result) :
      (v.port p).args = (s.port p).args ∧ (v.port p).res = (s.port p).res ∧
        (v.port p).result = (s.port p).result ∧ (q ≠ p → (v.port p).cmd = (s.port p).cmd) := by
    rw [v_port]
    split
    · next here =>
      subst here
      exact ⟨args, res, result, fun other => absurd rfl other⟩
    · exact ⟨rfl, rfl, rfl, fun _ => rfl⟩
  unfold State.writeCmd
  dsimp only
  split
  · exact ⟨rfl, rfl, rfl, fun _ => rfl⟩
  · split
    · exact wrote (port_setPort s q p _) rfl rfl rfl
    · exact wrote (port_setPort s q p _) rfl rfl rfl

theorem execRegisterWrite_port {q : Port} {o : BitVec 6} {v : Word}
    (ran : execRegisterWrite q o v s = .next t) (p : Port) :
    (q ≠ p → (t.port p).args = (s.port p).args) ∧ (t.port p).cmd = (s.port p).cmd ∧
      (t.port p).res = (s.port p).res ∧ (t.port p).result = (s.port p).result := by
  unfold execRegisterWrite at ran
  split at ran
  · split at ran <;> cases ran
    · exact ⟨fun _ => rfl, rfl, rfl, rfl⟩
    · rw [port_setPort]
      split
      · next here =>
        subst here
        exact ⟨fun other => absurd rfl other, rfl, rfl, rfl⟩
      · exact ⟨fun _ => rfl, rfl, rfl, rfl⟩
  · cases ran
    exact ⟨fun _ => rfl, rfl, rfl, rfl⟩

end

end Sys2Proof.Machine

open Sys2Proof Sys2Proof.Machine

/-- Settles O3: every command but the host's own writes of CMD and of an argument register keeps all
windows but for the answer it may write. -/
theorem windowBelongsToItsPort : Obligations.WindowBelongsToItsPort := by
  intro c s t p ran reset
  have enable (other : ∀ v, c ≠ .intenWrite p v) := exec_enables ran reset other
  cases own : writesWindow c with
  | false =>
    obtain ⟨args, cmd, latched, results⟩ := exec_keepsWindows ran own p
    refine ⟨fun _ => args, fun _ => cmd, enable, fun quiet => results ?_⟩
    obtain same | gone := latched
    · exact same
    · obtain busy | idle := quiet
      · simp [gone] at busy
      · exact gone.trans idle.symm
  | true =>
    cases c with
    | commandLatch q code =>
      cases ran
      obtain ⟨args, res, result, cmd⟩ := writeCmd_port s q code p
      exact ⟨fun _ => args, fun other => cmd fun same => (other code).1 (same ▸ rfl), enable,
        fun _ => ⟨res, result⟩⟩
    | cmdWriteDropped q code =>
      cases ran
      obtain ⟨args, res, result, cmd⟩ := writeCmd_port s q code p
      exact ⟨fun _ => args, fun other => cmd fun same => (other code).2 (same ▸ rfl), enable,
        fun _ => ⟨res, result⟩⟩
    | registerWrite q o v =>
      obtain ⟨args, cmd, written⟩ := execRegisterWrite_port ran p
      exact ⟨fun other => args fun same => other o v (same ▸ rfl), fun _ => cmd, enable, fun _ => written⟩
    | powerOnReset => exact absurd rfl reset
    | _ => simp [writesWindow] at own

end

section
/-! PROOFS. The window of a port: what its host writes and reads (R145, R153, R159, R160, R162, R164), and
the answers to its commands (R161, R163). -/

namespace Sys2Proof.Machine

/-! ### Packing fields one above another -/

/-- The register holds the value, all of it below bit `hi`. -/
structure Packs (w : Word) (n hi : Nat) : Prop where
  value : w.toNat = n
  below : n < 2 ^ hi

theorem packs_place {v hi : Nat} (bound : v < 2 ^ hi) (fits : hi ≤ 32) : Packs (place 0 v) v hi where
  value := by
    have top : 2 ^ hi ≤ 2 ^ 32 := Nat.pow_le_pow_right (by decide) fits
    rw [toNat_place_zero, Nat.mod_eq_of_lt (bound.trans_le top)]
  below := bound

theorem packs_zero (hi : Nat) : Packs 0 0 hi := ⟨rfl, Nat.two_pow_pos hi⟩

theorem Packs.mono {w : Word} {n lo hi : Nat} (h : Packs w n lo) (le : lo ≤ hi) : Packs w n hi :=
  ⟨h.value, h.below.trans_le (Nat.pow_le_pow_right (by decide) le)⟩

/-- A field of `k` bits is placed above what the register holds. -/
theorem Packs.or {w : Word} {n lo : Nat} (h : Packs w n lo) (k : Nat) {v : Nat} (bound : v < 2 ^ k)
    (fits : lo + k ≤ 32) : Packs (w ||| place lo v) (n + 2 ^ lo * v) (lo + k) := by
  have below : n + 2 ^ lo * v < 2 ^ (lo + k) := by
    rw [Nat.pow_add]
    calc n + 2 ^ lo * v < 2 ^ lo + 2 ^ lo * v := Nat.add_lt_add_right h.below _
      _ = 2 ^ lo * (v + 1) := by ring
      _ ≤ 2 ^ lo * 2 ^ k := Nat.mul_le_mul_left _ bound
  have top : 2 ^ (lo + k) ≤ 2 ^ 32 := Nat.pow_le_pow_right (by decide) fits
  refine ⟨?_, below⟩
  rw [toNat_or_place (h.value ▸ h.below) (by omega), h.value]

/-- A bit above what the register holds, shown or not. -/
theorem Packs.flag {w : Word} {n lo : Nat} (h : Packs w n lo) (b : Bool) (fits : lo + 1 ≤ 32) :
    Packs (w ||| place lo (Machine.flag b)) (n + if b then 2 ^ lo else 0) (lo + 1) := by
  have := h.or 1 (v := Machine.flag b) (by have := flag_le b; omega) fits
  cases b <;> simpa [Machine.flag] using this

theorem Session.value_le (x : Session) : x.value ≤ 2 := by
  cases x <;> simp [Session.value]

theorem ResultCode.value_lt (x : ResultCode) : x.value < 2 ^ 4 := by
  cases x <;> decide

/-! ### Reads of the window -/

section
variable (s : State) (p : Port)

theorem readWindow_of_asserted {offset : BitVec 6} (asserted : s.prst.get p = true) :
    readWindow s p offset = 0 := by
  simp [readWindow, asserted]

section
variable {offset : BitVec 6} (released : s.prst.get p = false)
include released

theorem readWindow_arg {i : Fin 8} (at_ : offset.toNat = 0x04 + 4 * i.val) :
    readWindow s p offset = (s.port p).args.row i := by
  unfold readWindow
  simp only [released, at_, Bool.false_eq_true, if_false]
  fin_cases i <;> rfl

theorem readWindow_res {i : Fin 4} (at_ : offset.toNat = 0x24 + 4 * i.val) :
    readWindow s p offset = (s.port p).res.row i := by
  unfold readWindow
  simp only [released, at_, Bool.false_eq_true, if_false]
  fin_cases i <;> rfl

theorem readWindow_elsewhere (at_ : offset.toNat = 0x3C ∨ offset.toNat % 4 ≠ 0) :
    readWindow s p offset = 0 := by
  unfold readWindow
  simp only [released, Bool.false_eq_true, if_false]
  split
  all_goals first | rfl | omega

end

theorem toNat_portStatus (bound : (s.noticeUnit p).queue.length ≤ 32) :
    (portStatus s p).toNat =
      (s.port p).session.value + 2 ^ 2 * (s.port p.peer).session.value
        + (if (s.port p).latched.isSome then 2 ^ 4 else 0) + 2 ^ 5 * (s.port p).result.value
        + (if (s.port p).dropped then 2 ^ 9 else 0) + 2 ^ 10 * (s.noticeUnit p).queue.length
        + (if intLevel s p then 2 ^ 16 else 0) := by
  have session (q : Port) : (s.port q).session.value < 2 ^ 2 := by
    have := (s.port q).session.value_le
    omega
  have sessions := (packs_place (session p) (by decide)).or 2 (session p.peer) (by decide)
  have command := (sessions.flag (s.port p).latched.isSome (by decide)).or 4
    (s.port p).result.value_lt (by decide)
  have counts := (command.flag (s.port p).dropped (by decide)).or 6 (v := (s.noticeUnit p).queue.length)
    (by omega) (by decide)
  exact (counts.flag (intLevel s p) (by decide)).value

theorem intLevel_iff :
    intLevel s p = true ↔ (s.noticeUnit p).queue ≠ [] ∧ (s.noticeUnit p).enable = true := by
  simp [intLevel, NoticeUnit.intLevel, State.noticeUnit, and_comm]

/-! ### Writes of the window -/

theorem writeCmd_of_asserted (code : Word) (asserted : s.prst.get p = true) : s.writeCmd p code = s := by
  simp [State.writeCmd, asserted]

theorem writeCmd_of_busy (code : Word) (released : s.prst.get p = false) (busy : (s.port p).latched.isSome) :
    s.writeCmd p code = s.setPort p { s.port p with dropped := true } := by
  obtain ⟨l, latched⟩ := Option.isSome_iff_exists.1 busy
  simp [State.writeCmd, released, latched]

theorem getLsbD_eq_field (w : Word) (i : Nat) : w.getLsbD i = decide (field w.toNat i 1 = 1) := by
  rw [BitVec.getLsbD, Nat.testBit_eq_decide_div_mod_eq]
  rfl

theorem argOffset_of_eq {offset : BitVec 6} {i : Fin 8} (at_ : offset.toNat = 4 * i.val + 4) :
    argOffset offset = some i := by
  have bound := i.isLt
  have shape : offset.toNat % 4 = 0 ∧ 4 ≤ offset.toNat ∧ offset.toNat ≤ 0x20 := by omega
  simp only [argOffset, dif_pos shape, Option.some.injEq]
  exact Fin.ext (by simp only; omega)

theorem argOffset_eq_some {offset : BitVec 6} {i : Fin 8} (h : argOffset offset = some i) :
    offset.toNat = 4 * i.val + 4 := by
  unfold argOffset at h
  dsimp only at h
  split at h <;> cases h
  simp only
  omega

/-! ### Answers (R161, R163) -/

theorem writeAnswer_of_cycle {l : Latched} {a : Answer} (latched : (s.port p).latched = some l)
    (cycle : l.cycle = a.cycle) :
    s.writeAnswer p a =
      s.setPort p { s.port p with res := a.reply.res, result := a.reply.code, latched := none } := by
  simp [State.writeAnswer, latched, cycle]

theorem writeAnswer_of_other {a : Answer} (other : ∀ l, (s.port p).latched = some l → l.cycle ≠ a.cycle) :
    s.writeAnswer p a = s := by
  unfold State.writeAnswer
  dsimp only
  split
  · next l latched => rw [if_neg (other l latched)]
  · rfl

variable {s p}

/-- The Port Command Unit takes a command of its own and answers it, its block's state as `act` leaves it. -/
theorem unitTakes_of_act {picks : Latched → Bool} {act : Act} {l : Latched} {rest : List Latched} {r : Reply}
    {t : State} (handed : s.wires.handed.get p = l :: rest) (picked : picks l = true)
    (owned : unitOwned l = true) (acts : act p l.args (s.setHanded p rest) = (r, t)) :
    unitTakes picks act p s = t.writeAnswer p ⟨l.cycle, r⟩ := by
  simp [unitTakes, handed, picked, owned, acts]

theorem setHanded_writeAnswer {l : Latched} (latched : (s.port p).latched = some l) (rest : List Latched)
    (r : Reply) : (s.setHanded p rest).writeAnswer p ⟨l.cycle, r⟩ = s.written p rest r :=
  writeAnswer_of_cycle (s.setHanded p rest) p latched rfl

theorem commandOf_eq_none {code : Word}
    (unlisted : code.toNat ∉
      [0x01, 0x02, 0x10, 0x11, 0x12, 0x13, 0x14, 0x15, 0x20, 0x21, 0x22, 0x28, 0x29, 0x30, 0x31, 0x32, 0x38,
        0x39, 0x40]) : commandOf code = none := by
  unfold commandOf
  split
  all_goals first | rfl | simp_all

theorem exec_unknownCommandCode {l : Latched} {rest : List Latched} (handed : s.wires.handed.get p = l :: rest)
    (latched : (s.port p).latched = some l) (unlisted : commandOf l.code = none) :
    exec (.unknownCommandCode p) s = .next (s.written p rest (.plain .unknownCommand)) := by
  have owned : unitOwned l = true := by simp [unitOwned, unlisted]
  have taken : unitTakes (fun l => (commandOf l.code).isNone) unknownAct p s = _ :=
    unitTakes_of_act handed (by simp [unlisted]) owned rfl
  exact congrArg _ (taken.trans (setHanded_writeAnswer latched rest _))

theorem domainArg_eq_none {w : Word} (bad : 2 ≤ w.toNat) : domainArg w = none := by
  unfold domainArg
  split
  all_goals first | rfl | omega

theorem noUnitAct_eq (a : Table Word 8) :
    noUnitAct p a s = (.plain (if s.online p = true then .badAperture else .notOnline), s) := by
  unfold noUnitAct
  split <;> rfl

theorem apertureTakes_of_no_domain {c : Command} {act : Domain → Act} {l : Latched} {rest : List Latched}
    (handed : s.wires.handed.get p = l :: rest) (latched : (s.port p).latched = some l)
    (code : commandOf l.code = some c) (aperture : c ∈ [Command.openAperture, .revokeAperture, .queryAperture])
    (bad : 2 ≤ l.arg 0) :
    apertureTakes c act p s =
      s.written p rest (.plain (if s.online p = true then .badAperture else .notOnline)) := by
  have none : domainArg (l.args.row 0) = none := domainArg_eq_none bad
  have owned : unitOwned l = true := by
    have : unitOwned l = (domainArg (l.args.row 0)).isNone := by
      simp only [List.mem_cons, List.not_mem_nil, or_false] at aperture
      obtain rfl | rfl | rfl := aperture <;> simp [unitOwned, code]
    rw [this, none]
    rfl
  have taken : unitTakes (fun _ => true) noUnitAct p s = _ := unitTakes_of_act handed rfl owned (noUnitAct_eq l.args)
  simp only [apertureTakes, handed, code, if_true, none]
  exact taken.trans (setHanded_writeAnswer latched rest _)

end

end Sys2Proof.Machine

open Sys2Proof Sys2Proof.Machine

/-- Settles O54: each offset reads its register, and PSTAT is read field by field from the lowest up. -/
theorem windowReadsBack : Obligations.WindowReadsBack := by
  refine ⟨fun s p offset => ⟨readWindow_of_asserted s p, fun released => ⟨fun at_ => ?_,
    fun i => readWindow_arg s p released, fun i => readWindow_res s p released, fun at_ => ?_,
    readWindow_elsewhere s p released, fun at_ bound => ?_⟩⟩, intLevel_iff, by decide⟩
  · simp only [readWindow, released, at_]
    rfl
  · simp only [readWindow, released, at_]
    change place 0 (flag (s.noticeUnit p).enable) = _
    cases (s.noticeUnit p).enable <;> rfl
  · have read : readWindow s p offset = portStatus s p := by
      simp only [readWindow, released, at_]
      rfl
    rw [read, toNat_portStatus s p bound]
    rfl

/-- Settles O53: each kind of write, by the level of PRSTx, the command state and the offset. -/
theorem windowWrites : Obligations.WindowWrites := by
  refine fun s p => ⟨fun code c member => ?_, fun value => ⟨?_, ?_⟩, fun offset value => ⟨?_, ?_⟩⟩
  · have ran : exec c s = .next (s.writeCmd p code) := by
      obtain rfl | rfl : c = .commandLatch p code ∨ c = .cmdWriteDropped p code := by simpa using member
      · rfl
      · rfl
    rw [ran]
    refine ⟨fun released idle => ?_, fun released busy => ?_, fun asserted => ?_⟩
    · simp only [State.writeCmd, released, idle]
      rfl
    · rw [writeCmd_of_busy s p code released busy]
      rfl
    · rw [writeCmd_of_asserted s p code asserted]
  · change execPstatWrite p value s = _
    simp only [execPstatWrite, getLsbD_eq_field]
    cases s.prst.get p <;> by_cases bit : field value.toNat 9 1 = 1 <;>
      simp [bit, State.setPort]
  · change execIntenWrite p value s = _
    simp only [execIntenWrite, getLsbD_eq_field]
    cases s.prst.get p <;> rfl
  · intro i at_ released
    change execRegisterWrite p offset value s = _
    simp only [execRegisterWrite, argOffset_of_eq at_, released]
    rfl
  · intro ignored
    change execRegisterWrite p offset value s = _
    unfold execRegisterWrite
    split
    · next i here =>
      obtain elsewhere | asserted := ignored
      · exact absurd (argOffset_eq_some here) (elsewhere i)
      · rw [asserted]
        rfl
    · rfl

/-- Settles O55: the answer's cycle against the cycle latched, and the commands the unit answers itself. -/
theorem answersAreWrittenForTheirCycle : Obligations.AnswersAreWrittenForTheirCycle := by
  refine ⟨fun s p before after a answers => ?_, fun s p l rest handed latched => ⟨fun unlisted => ?_, ?_⟩⟩
  · have ran : exec (.commandAnswer p before.length) s =
        .next ((s.setWires { s.wires with answers := s.wires.answers.set p (before ++ after) }).writeAnswer
          p a) := by
      change execCommandAnswer p before.length s = _
      simp only [execCommandAnswer, answers, takeAt_append]
    rw [ran]
    refine ⟨fun l latched cycle => ?_, fun other => ?_⟩
    · exact congrArg Host.Outcome.next (writeAnswer_of_cycle (s.setWires _) p latched cycle)
    · exact congrArg Host.Outcome.next (writeAnswer_of_other (s.setWires _) p other)
  · exact exec_unknownCommandCode handed latched (commandOf_eq_none unlisted)
  · intro c code member number bad
    simp only [List.mem_cons, Prod.mk.injEq, List.not_mem_nil, or_false] at member
    obtain ⟨rfl, rfl⟩ | ⟨rfl, rfl⟩ | ⟨rfl, rfl⟩ := member
    all_goals
      exact congrArg _ (apertureTakes_of_no_domain handed latched (by simp [commandOf, number])
        (by decide) bad)

end

section
/-! PROOFS. Sessions: ANNOUNCE, DETACH and the port reset line (R149, R151–R157), and SET_RESPONSE_LIMIT
(R112). -/

namespace Sys2Proof.Machine

variable {s t : State} {p : Port} {l : Latched} {rest : List Latched} {r : Reply}

/-! ### What a block makes of a command handed over -/

/-- An owner takes a command of its own and answers. -/
theorem owner_acts {c : Command} {act : Act} (handed : s.wires.handed.get p = l :: rest)
    (code : commandOf l.code = some c)
    (owner : c ∉ [Command.announce, .detach, .readEngines, .openAperture, .revokeAperture, .queryAperture])
    (acts : act p l.args (s.setHanded p rest) = (r, t)) :
    (.next (ownerTakes c act p s) : Result) = .next (t.sendAnswer p ⟨l.cycle, r⟩) :=
  congrArg _ (ownerTakes_of_act handed code (unitOwned_eq_false code owner) acts)

/-- An owner takes a command of its own, and changes nothing but the answer. -/
theorem owner_answers {c : Command} {act : Act} (handed : s.wires.handed.get p = l :: rest)
    (code : commandOf l.code = some c)
    (owner : c ∉ [Command.announce, .detach, .readEngines, .openAperture, .revokeAperture, .queryAperture])
    (acts : act p l.args (s.setHanded p rest) = (r, s.setHanded p rest)) :
    (.next (ownerTakes c act p s) : Result) = .next (s.taken p l rest r) :=
  owner_acts handed code owner acts

theorem place_zero (v : Nat) : place 0 v = BitVec.ofNat 32 v := by
  simp [place]

/-! ### SET_RESPONSE_LIMIT (R112) -/

theorem setResponseLimitAct_of_offline {a : Table Word 8} (offline : s.online p = false) :
    setResponseLimitAct p a s = (.plain .notOnline, s) := by
  simp [setResponseLimitAct, offline]

theorem setResponseLimitAct_of_above {a : Table Word 8} (online : s.online p = true)
    (above : 65535 < (a.row 0).toNat) : setResponseLimitAct p a s = (.badField 1, s) := by
  simp [setResponseLimitAct, online, Config.responseLimitMax, above]

theorem setResponseLimitAct_of_bound {a : Table Word 8} (online : s.online p = true)
    (bound : (a.row 0).toNat ≤ 65535) :
    setResponseLimitAct p a s =
      (.withRes1 .ok (s.master p).limit, s.setMaster p { s.master p with limit := (a.row 0).toNat }) := by
  simp [setResponseLimitAct, online, Config.responseLimitMax, Nat.not_lt.2 bound]

/-! ### The Port Command Unit's own commands -/

/-- The answer is written beside what the command itself wrote of the unit. -/
theorem writeAnswer_of_ports {ps : PerPort PortUnit} {x : PortUnit} (ports : t.ports = ps.set p x)
    (latched : x.latched = some l) :
    t.writeAnswer p ⟨l.cycle, r⟩ =
      { t with ports := ps.set p { x with res := r.res, result := r.code, latched := none } } := by
  have port : t.port p = x := by rw [State.port, ports, PerPort.get_set_self]
  rw [writeAnswer_of_cycle t p (l := l) (by rw [port, latched]) rfl, State.setPort, port, ports,
    PerPort.set_set]

theorem exec_announce {u : State} (handed : s.handedOver p 0x01 l rest)
    (acts : announceAct p l.args (s.setHanded p rest) = (r, u)) :
    exec (.announce p) s = .next (u.writeAnswer p ⟨l.cycle, r⟩) := by
  have code : commandOf l.code = some .announce := by simp [commandOf, handed.2]
  exact congrArg _ (unitTakes_of_act handed.1 (by simp [code]) (by simp [unitOwned, code]) acts)

theorem exec_detach {u : State} (handed : s.handedOver p 0x02 l rest)
    (acts : detachAct p l.args (s.setHanded p rest) = (r, u)) :
    exec (.detach p) s = .next (u.writeAnswer p ⟨l.cycle, r⟩) := by
  have code : commandOf l.code = some .detach := by simp [commandOf, handed.2]
  exact congrArg _ (unitTakes_of_act handed.1 (by simp [code]) (by simp [unitOwned, code]) acts)

theorem announceReply_eq (x : Session) :
    announceReply x = ⟨.ok, results (BitVec.ofNat 32 x.value) 0x5A64#32 0x02#32 0⟩ := by
  simp only [announceReply, place_zero]
  rfl

section
variable {a : Table Word 8}

theorem announceAct_of_offline (offline : (s.port p).session = .offline) :
    announceAct p a s =
      (announceReply (s.port p.peer).session, (s.setSession p .online).postSystem p.peer .peerReady) := by
  simp [announceAct, offline]

theorem announceAct_of_online (online : (s.port p).session = .online) :
    announceAct p a s = (.plain .wrongState, s) := by
  simp [announceAct, online]

theorem announceAct_of_clearing {x : Teardown} (clearing : (s.port p).session = .clearing x) :
    announceAct p a s = (.plain .portClearing, s) := by
  simp [announceAct, clearing]

theorem detachAct_of_online (online : (s.port p).session = .online) :
    detachAct p a s = (.plain .accepted, s.startTeardown p .detach) := by
  simp [detachAct, online]

theorem detachAct_of_offline (offline : (s.port p).session = .offline) :
    detachAct p a s = (.plain .notOnline, s) := by
  simp [detachAct, offline]

theorem detachAct_of_clearing {x : Teardown} (clearing : (s.port p).session = .clearing x) :
    detachAct p a s = (.plain .portClearing, s) := by
  simp [detachAct, clearing]

end

/-! ### The port reset line (R152, R153, R157) -/

theorem resetSession_of_online (online : (s.port p).session = .online) :
    s.resetSession p = s.startTeardown p .reset := by
  simp [State.resetSession, online]

theorem resetSession_of_offline (offline : (s.port p).session = .offline) : s.resetSession p = s := by
  simp [State.resetSession, offline]

theorem resetSession_of_reset {x : Teardown} (clearing : (s.port p).session = .clearing x)
    (reset : x.cause = .reset) : s.resetSession p = s := by
  simp [State.resetSession, clearing, reset]

theorem resetSession_of_detach {x : Teardown} (clearing : (s.port p).session = .clearing x)
    (detach : x.cause = .detach) :
    s.resetSession p =
      (s.setSession p (.clearing { x with cause := .reset })).setDirections p
        { s.wires.directions.get p with abandon := (s.wires.directions.get p).abandon + 1 } := by
  simp [State.resetSession, clearing, detach]

/-- The window and the port's hand-offs as an assertion leaves them (R153). -/
def State.frozen (s : State) (p : Port) : State :=
  { s with
    prst := s.prst.set p true
    ports := s.ports.set p { s.port p with latched := none, dropped := false, gather := none }
    wires :=
      { s.wires with
        handed := s.wires.handed.set p ((s.wires.handed.get p).filter fun l => !unitOwned l) } }

theorem exec_prstxAsserted (released : s.prst.get p = false) :
    exec (.prstxAsserted p) s = .next ((s.frozen p).resetSession p) := by
  change execPrstxAsserted p s = _
  rw [execPrstxAsserted, released]
  rfl

theorem frozen_port (s : State) (p : Port) :
    (s.frozen p).port p = { s.port p with latched := none, dropped := false, gather := none } :=
  PerPort.get_set_self _ _ _

theorem frozen_ports_set (s : State) (p : Port) (x : PortUnit) :
    (s.frozen p).ports.set p x = s.ports.set p x := PerPort.set_set _ _ _ _

end Sys2Proof.Machine

open Sys2Proof Sys2Proof.Machine

/-- Settles O37: offline, above the limit, or within it. -/
theorem responseLimitIsSet : Obligations.ResponseLimitIsSet := by
  intro s p l rest handed
  have code : commandOf l.code = some .setResponseLimit := by simp [commandOf, handed.2]
  refine ⟨fun offline => ?_, fun online above => ?_, fun online bound => ?_⟩
  · exact owner_answers handed.1 code (by decide) (setResponseLimitAct_of_offline offline)
  · exact owner_answers handed.1 code (by decide) (setResponseLimitAct_of_above online above)
  · refine (owner_acts handed.1 code (by decide) (setResponseLimitAct_of_bound online bound)).trans ?_
    rw [Reply.withRes1, place_zero]
    rfl

/-- Settles O56: each command by the session it meets. -/
theorem announceJoinsDetachLeaves : Obligations.AnnounceJoinsDetachLeaves := by
  refine fun s p l rest latched => ⟨fun handed => ⟨fun offline => ?_, fun online => ?_, fun t clearing => ?_⟩,
    fun handed => ⟨fun online => ?_, fun offline => ?_, fun t clearing => ?_⟩⟩
  · rw [exec_announce handed (announceAct_of_offline offline), announceReply_eq]
    exact congrArg _ (writeAnswer_of_ports (x := { s.port p with session := .online }) rfl latched)
  · rw [exec_announce handed (announceAct_of_online online), setHanded_writeAnswer latched]
  · rw [exec_announce handed (announceAct_of_clearing clearing), setHanded_writeAnswer latched]
  · rw [exec_detach handed (detachAct_of_online online)]
    exact congrArg _ (writeAnswer_of_ports
      (x := { s.port p with session := .clearing ⟨.detach, false, false, false, false⟩ }) rfl latched)
  · rw [exec_detach handed (detachAct_of_offline offline), setHanded_writeAnswer latched]
  · rw [exec_detach handed (detachAct_of_clearing clearing), setHanded_writeAnswer latched]

/-- Settles O57: the window is frozen, and then the session decides. -/
theorem resetLineFreezesAndTearsDown : Obligations.ResetLineFreezesAndTearsDown := by
  refine fun s p => ⟨rfl, fun asserted => ?_, fun released => ?_⟩
  · change execPrstxAsserted p s = _
    rw [execPrstxAsserted, asserted]
    rfl
  · dsimp only
    rw [exec_prstxAsserted released]
    have session : ((s.frozen p).port p).session = (s.port p).session := by rw [frozen_port]
    refine ⟨fun offline => ?_, fun online => ?_, fun t clearing => ⟨fun reset => ?_, fun detach => ?_⟩⟩
    · rw [resetSession_of_offline (session.trans offline), ← offline]
      rfl
    · rw [resetSession_of_online (session.trans online)]
      simp only [State.startTeardown, State.setPort, frozen_port, frozen_ports_set]
      rfl
    · rw [resetSession_of_reset (session.trans clearing) reset, ← clearing]
      rfl
    · rw [resetSession_of_detach (session.trans clearing) detach]
      simp only [State.setSession, State.setPort, frozen_port, frozen_ports_set]
      rfl

end

section
/-! PROOFS. The checks that the channel commands begin with (R3), and what a refusal leaves: everything but
the answer (R161). -/

namespace Sys2Proof.Machine

variable {s t : State} {p : Port} {l : Latched} {rest : List Latched} {r : Reply} {ch : ChannelNo}
  {w : Word} {a : Table Word 8}

/-! ### The first checks of R3 -/

theorem channelCheck_of_offline {needsOwner : Bool} (offline : s.online p = false) :
    channelCheck s p w needsOwner = .error .notOnline := by
  simp [channelCheck, offline]

theorem channelCheck_of_no_channel {needsOwner : Bool} (online : s.online p = true) (bad : 64 ≤ w.toNat) :
    channelCheck s p w needsOwner = .error .badChannel := by
  simp [channelCheck, online, channelArg_of_ge bad]

theorem channelCheck_of_not_owner (online : s.online p = true) (number : w.toNat = ch.val)
    (owner : (s.channel ch).owner ≠ some p) : channelCheck s p w true = .error .notOwner := by
  simp [channelCheck, online, channelArg_of_toNat_eq number, owner]

theorem channelCheck_of_owner (online : s.online p = true) (number : w.toNat = ch.val)
    (owner : (s.channel ch).owner = some p) : channelCheck s p w true = .ok ch := by
  simp [channelCheck, online, channelArg_of_toNat_eq number, owner]

/-- A command of the Channel Table or Trigger Unit that begins with the checks of R3: its number, its act,
and whether the owner is asked for. -/
structure ChannelCommand (c : Port → Instr) (code : Nat) (act : Act) (needsOwner : Bool) : Prop where
  takes : ∀ (s : State) (p : Port) (l : Latched) (rest : List Latched) (r : Reply) (t : State),
    s.handedOver p code l rest → act p l.args (s.setHanded p rest) = (r, t) →
      exec (c p) s = .next (t.sendAnswer p ⟨l.cycle, r⟩)
  checks : ∀ (s : State) (p : Port) (a : Table Word 8) (x : ResultCode),
    channelCheck s p (a.row 0) needsOwner = .error x → act p a s = (.plain x, s)

namespace ChannelCommand

theorem claim : ChannelCommand .claim 0x10 claimAct false where
  takes s p l rest r t handed acts :=
    owner_acts (c := .claim) handed.1 (by simp [commandOf, handed.2]) (by decide) acts
  checks s p a x check := by simp [claimAct, check]

theorem release : ChannelCommand .release 0x11 releaseAct true where
  takes s p l rest r t handed acts :=
    owner_acts (c := .release) handed.1 (by simp [commandOf, handed.2]) (by decide) acts
  checks s p a x check := by simp [releaseAct, check]

theorem load : ChannelCommand .load 0x12 loadAct true where
  takes s p l rest r t handed acts :=
    owner_acts (c := .load) handed.1 (by simp [commandOf, handed.2]) (by decide) acts
  checks s p a x check := by simp [loadAct, check]

theorem readChannel : ChannelCommand .readChannel 0x13 readChannelAct false where
  takes s p l rest r t handed acts :=
    owner_acts (c := .readChannel) handed.1 (by simp [commandOf, handed.2]) (by decide) acts
  checks s p a x check := by simp [readChannelAct, check]

theorem start : ChannelCommand .start 0x20 startAct true where
  takes s p l rest r t handed acts :=
    owner_acts (c := .start) handed.1 (by simp [commandOf, handed.2]) (by decide) acts
  checks s p a x check := by simp [startAct, check]

theorem abort : ChannelCommand .abort 0x21 abortAct true where
  takes s p l rest r t handed acts :=
    owner_acts (c := .abort) handed.1 (by simp [commandOf, handed.2]) (by decide) acts
  checks s p a x check := by simp [abortAct, check]

theorem resume : ChannelCommand .resume 0x22 resumeAct true where
  takes s p l rest r t handed acts :=
    owner_acts (c := .resume) handed.1 (by simp [commandOf, handed.2]) (by decide) acts
  checks s p a x check := by simp [resumeAct, check]

section
variable {c : Port → Instr} {code : Nat} {act : Act} {needsOwner : Bool}
  (h : ChannelCommand c code act needsOwner)
include h

theorem answers (handed : s.handedOver p code l rest)
    (acts : act p l.args (s.setHanded p rest) = (r, s.setHanded p rest)) :
    exec (c p) s = .next (s.taken p l rest r) := h.takes s p l rest r _ handed acts

theorem refuses {x : ResultCode} (handed : s.handedOver p code l rest)
    (check : channelCheck (s.setHanded p rest) p (l.args.row 0) needsOwner = .error x) :
    exec (c p) s = .next (s.taken p l rest (.plain x)) := h.answers handed (h.checks _ p _ x check)

/-- The checks in their order (R3). -/
theorem checksInOrder (handed : s.handedOver p code l rest) :
    (s.online p = false → exec (c p) s = .next (s.taken p l rest (.plain .notOnline))) ∧
      (s.online p = true → 64 ≤ l.arg 0 → exec (c p) s = .next (s.taken p l rest (.plain .badChannel))) ∧
        (needsOwner = true → s.online p = true → ∀ ch : ChannelNo, l.arg 0 = ch.val →
          (s.channel ch).owner ≠ some p → exec (c p) s = .next (s.taken p l rest (.plain .notOwner))) := by
  refine ⟨fun offline => h.refuses handed (channelCheck_of_offline offline),
    fun online bad => h.refuses handed (channelCheck_of_no_channel online bad),
    fun needs online ch number owner => h.refuses handed ?_⟩
  rw [needs]
  exact channelCheck_of_not_owner online number owner

end

end ChannelCommand

/-! ### Refusals (R161) -/

/-- The block sends no answer but the command's own, and where that is neither OK nor ACCEPTED it has
changed nothing. -/
def Act.Refuses (act : Act) : Prop :=
  ∀ (p : Port) (a : Table Word 8) (s : State),
    (act p a s).2.wires.answers = s.wires.answers ∧
      ((act p a s).1.code ≠ .ok → (act p a s).1.code ≠ .accepted → (act p a s).2 = s)

/-- The command is accepted, its answer OK or ACCEPTED. -/
theorem refuses_of_accepted {x : Reply × State} (answers : x.2.wires.answers = s.wires.answers)
    (code : x.1.code = .ok ∨ x.1.code = .accepted) :
    x.2.wires.answers = s.wires.answers ∧ (x.1.code ≠ .ok → x.1.code ≠ .accepted → x.2 = s) :=
  ⟨answers, fun notOk notAccepted => absurd (code.resolve_left notOk) notAccepted⟩

/-- The command is refused, or answered with nothing changed. -/
theorem refuses_of_same {r : Reply} :
    (r, s).2.wires.answers = s.wires.answers ∧ ((r, s).1.code ≠ .ok → (r, s).1.code ≠ .accepted → (r, s).2 = s) :=
  ⟨rfl, fun _ _ => rfl⟩

theorem claimAct_refuses : Act.Refuses claimAct := by
  intro p a s
  unfold claimAct
  split
  · exact refuses_of_same
  · split
    · exact refuses_of_accepted (by simp) (.inl rfl)
    · exact refuses_of_same

theorem releaseAct_refuses : Act.Refuses releaseAct := by
  intro p a s
  unfold releaseAct
  split
  · exact refuses_of_same
  · split
    iterate 3 exact refuses_of_accepted (by simp) (.inl rfl)
    exact refuses_of_same

theorem loadAct_refuses : Act.Refuses loadAct := by
  intro p a s
  unfold loadAct
  split
  · exact refuses_of_same
  · split
    · split
      · exact refuses_of_same
      · exact refuses_of_accepted (by simp) (.inl rfl)
    · exact refuses_of_same

theorem readChannelAct_refuses : Act.Refuses readChannelAct := by
  intro p a s
  unfold readChannelAct
  repeat' split
  all_goals exact refuses_of_same

theorem queryTableAct_refuses : Act.Refuses queryTableAct := by
  intro p a s
  unfold queryTableAct
  split <;> exact refuses_of_same

theorem startAct_refuses : Act.Refuses startAct := by
  intro p a s
  unfold startAct
  dsimp only
  split
  · exact refuses_of_same
  · split
    · exact refuses_of_same
    · split
      · exact refuses_of_same
      · exact refuses_of_accepted (by simp) (.inl rfl)

theorem abortAct_refuses : Act.Refuses abortAct := by
  intro p a s
  unfold abortAct
  dsimp only
  split
  · exact refuses_of_same
  · split
    · exact refuses_of_same
    · exact refuses_of_same
    · exact refuses_of_accepted (by simp) (.inl rfl)
    · exact refuses_of_accepted (by simp) (.inr rfl)
    · exact refuses_of_same
    · exact refuses_of_accepted (by simp) (.inl rfl)
    · exact refuses_of_accepted (by simp) (.inl rfl)

theorem resumeAct_refuses : Act.Refuses resumeAct := by
  intro p a s
  unfold resumeAct
  dsimp only
  split
  · exact refuses_of_same
  · split
    · split
      · exact refuses_of_same
      · exact refuses_of_accepted (by simp) (.inl rfl)
    · exact refuses_of_same

theorem mapLineAct_refuses : Act.Refuses mapLineAct := by
  intro p a s
  unfold mapLineAct
  dsimp only
  repeat' split
  all_goals first | exact refuses_of_same | exact refuses_of_accepted (by simp) (.inl rfl)

theorem unmapLineAct_refuses : Act.Refuses unmapLineAct := by
  intro p a s
  unfold unmapLineAct
  repeat' split
  all_goals first | exact refuses_of_same | exact refuses_of_accepted (by simp) (.inl rfl)

theorem setResponseLimitAct_refuses : Act.Refuses setResponseLimitAct := by
  intro p a s
  unfold setResponseLimitAct
  split
  · exact refuses_of_same
  · split
    · exact refuses_of_same
    · exact refuses_of_accepted rfl (.inl rfl)

theorem endEntries_answers (s : State) (d : Domain) (es : List BusEntry) :
    (s.endEntries d es).wires.answers = s.wires.answers := by
  unfold State.endEntries
  refine foldl_keeps (P := fun t => t.wires.answers = s.wires.answers) (fun t x h => ?_) es rfl
  exact h

theorem clearBusAct_refuses : Act.Refuses clearBusAct := by
  intro p a s
  unfold clearBusAct
  dsimp only
  split
  · exact refuses_of_same
  · split
    · exact refuses_of_same
    · exact refuses_of_accepted (endEntries_answers s p _) (.inl rfl)

theorem popNoticeAct_refuses : Act.Refuses popNoticeAct := by
  intro p a s
  unfold popNoticeAct
  dsimp only
  split
  · exact refuses_of_same
  · split
    · exact refuses_of_same
    · refine refuses_of_accepted ?_ (.inl rfl)
      split <;> simp

theorem openApertureAt_answers (s : State) (d : Domain) (i : ApertureNo) (g : Grant) :
    (s.openApertureAt d i g).wires.answers = s.wires.answers := by
  unfold State.openApertureAt
  dsimp only
  split <;> rfl

theorem openApertureAct_refuses (d : Domain) : Act.Refuses (openApertureAct d) := by
  intro p a s
  unfold openApertureAct
  split
  · exact refuses_of_same
  · split
    · exact refuses_of_same
    · split
      · exact refuses_of_same
      · exact refuses_of_accepted (openApertureAt_answers s d _ _) (.inl rfl)

theorem revoke_answers (s : State) (d : Domain) (i : ApertureNo) :
    (s.revoke d i).wires.answers = s.wires.answers := by
  unfold State.revoke State.closeAperture
  dsimp only
  repeat' split
  all_goals rfl

theorem revokeApertureAct_refuses (d : Domain) : Act.Refuses (revokeApertureAct d) := by
  intro p a s
  unfold revokeApertureAct
  dsimp only
  split
  · exact refuses_of_same
  · split
    · exact refuses_of_same
    · refine refuses_of_accepted (revoke_answers s d _) ?_
      simp only [Reply.withRes1]
      split <;> simp

theorem queryApertureAct_refuses (d : Domain) : Act.Refuses (queryApertureAct d) := by
  intro p a s
  unfold queryApertureAct
  dsimp only
  split <;> exact refuses_of_same

/-- The answer sent last is the command's own. -/
theorem ownerTakes_refuses {c : Command} {act : Act} (refuses : Act.Refuses act)
    (handed : s.wires.handed.get p = l :: rest)
    (answer : (ownerTakes c act p s).wires.answers.get p = s.wires.answers.get p ++ [⟨l.cycle, r⟩])
    (notOk : r.code ≠ .ok) (notAccepted : r.code ≠ .accepted) :
    ownerTakes c act p s = s.taken p l rest r := by
  obtain same | ⟨m, others, handed', -, -, e⟩ := ownerTakes_cases c act p s
  · rw [same] at answer
    simp at answer
  · obtain ⟨rfl, rfl⟩ := List.cons.inj (handed.symm.trans handed')
    obtain ⟨answers, refused⟩ := refuses p l.args (s.setHanded p rest)
    have sent : (ownerTakes c act p s).wires.answers.get p =
        s.wires.answers.get p ++ [⟨l.cycle, (act p l.args (s.setHanded p rest)).1⟩] := by
      rw [e]
      change ((act p l.args (s.setHanded p rest)).2.wires.answers.set p _).get p = _
      rw [PerPort.get_set_self, answers]
      rfl
    obtain rfl : (act p l.args (s.setHanded p rest)).1 = r := by
      simpa using (sent.symm.trans answer)
    rw [e, refused notOk notAccepted, setHanded_sendAnswer]

theorem unitTakes_answers {picks : Latched → Bool} {act : Act} (refuses : Act.Refuses act) (s : State) (p : Port) :
    (unitTakes picks act p s).wires.answers = s.wires.answers := by
  obtain same | ⟨m, others, -, -, -, e⟩ := unitTakes_cases picks act p s
  · rw [same]
  · rw [e]
    simpa using (refuses p m.args (s.setHanded p others)).1

theorem noUnitAct_refuses : Act.Refuses noUnitAct := by
  intro p a s
  unfold noUnitAct
  split <;> exact refuses_of_same

theorem apertureTakes_refuses {c : Command} {act : Domain → Act} (refuses : ∀ d, Act.Refuses (act d))
    (handed : s.wires.handed.get p = l :: rest)
    (answer : (apertureTakes c act p s).wires.answers.get p = s.wires.answers.get p ++ [⟨l.cycle, r⟩])
    (notOk : r.code ≠ .ok) (notAccepted : r.code ≠ .accepted) :
    apertureTakes c act p s = s.taken p l rest r := by
  obtain same | ⟨d, e⟩ | e := apertureTakes_cases c act p s
  · rw [same] at answer
    simp at answer
  · rw [e] at answer ⊢
    exact ownerTakes_refuses (refuses d) handed answer notOk notAccepted
  · rw [e, unitTakes_answers noUnitAct_refuses] at answer
    simp at answer

end Sys2Proof.Machine

open Sys2Proof Sys2Proof.Machine

/-- Settles O12: each of the seven commands begins with the shared check, and each block's act answers OK or
ACCEPTED where it changes anything. -/
theorem checksComeInOrderAndRefuse : Obligations.ChecksComeInOrderAndRefuse := by
  refine ⟨fun s p l rest c code member handed => ?_, fun s t p l rest c r member handed ran answer notOk
    notAccepted => ?_⟩
  · simp only [List.mem_cons, Prod.mk.injEq, List.not_mem_nil, or_false] at member
    obtain ⟨rfl, rfl⟩ | ⟨rfl, rfl⟩ | ⟨rfl, rfl⟩ | ⟨rfl, rfl⟩ | ⟨rfl, rfl⟩ | ⟨rfl, rfl⟩ | ⟨rfl, rfl⟩ := member
    case inl =>
      obtain ⟨offline, bad, -⟩ := ChannelCommand.claim.checksInOrder handed
      exact ⟨offline, bad, fun _ notClaim => absurd rfl notClaim⟩
    case inr.inr.inr.inl =>
      obtain ⟨offline, bad, -⟩ := ChannelCommand.readChannel.checksInOrder handed
      exact ⟨offline, bad, fun _ _ notRead => absurd rfl notRead⟩
    case inr.inl =>
      obtain ⟨offline, bad, owner⟩ := ChannelCommand.release.checksInOrder handed
      exact ⟨offline, bad, fun online _ _ => owner rfl online⟩
    case inr.inr.inl =>
      obtain ⟨offline, bad, owner⟩ := ChannelCommand.load.checksInOrder handed
      exact ⟨offline, bad, fun online _ _ => owner rfl online⟩
    case inr.inr.inr.inr.inl =>
      obtain ⟨offline, bad, owner⟩ := ChannelCommand.start.checksInOrder handed
      exact ⟨offline, bad, fun online _ _ => owner rfl online⟩
    case inr.inr.inr.inr.inr.inl =>
      obtain ⟨offline, bad, owner⟩ := ChannelCommand.abort.checksInOrder handed
      exact ⟨offline, bad, fun online _ _ => owner rfl online⟩
    case inr.inr.inr.inr.inr.inr =>
      obtain ⟨offline, bad, owner⟩ := ChannelCommand.resume.checksInOrder handed
      exact ⟨offline, bad, fun online _ _ => owner rfl online⟩
  · have owner {x : Command} {act : Act} (refuses : Act.Refuses act)
        (ran : (.next (ownerTakes x act p s) : Result) = .next t) : t = s.taken p l rest r := by
      obtain rfl := Host.Outcome.next.inj ran
      exact ownerTakes_refuses refuses handed answer notOk notAccepted
    have aperture {x : Command} {act : Domain → Act} (refuses : ∀ d, Act.Refuses (act d))
        (ran : (.next (apertureTakes x act p s) : Result) = .next t) : t = s.taken p l rest r := by
      obtain rfl := Host.Outcome.next.inj ran
      exact apertureTakes_refuses refuses handed answer notOk notAccepted
    simp only [List.mem_cons, List.not_mem_nil, or_false] at member
    obtain rfl | rfl | rfl | rfl | rfl | rfl | rfl | rfl | rfl | rfl | rfl | rfl | rfl | rfl | rfl | rfl := member
    · exact owner claimAct_refuses ran
    · exact owner releaseAct_refuses ran
    · exact owner loadAct_refuses ran
    · exact owner readChannelAct_refuses ran
    · exact owner queryTableAct_refuses ran
    · exact owner startAct_refuses ran
    · exact owner abortAct_refuses ran
    · exact owner resumeAct_refuses ran
    · exact owner mapLineAct_refuses ran
    · exact owner unmapLineAct_refuses ran
    · exact aperture openApertureAct_refuses ran
    · exact aperture revokeApertureAct_refuses ran
    · exact aperture queryApertureAct_refuses ran
    · exact owner setResponseLimitAct_refuses ran
    · exact owner clearBusAct_refuses ran
    · exact owner popNoticeAct_refuses ran

end

section
/-! PROOFS. What the channel commands do once their checks have passed: RELEASE, LOAD, START, ABORT and
RESUME (R5–R10, R28, R127–R132). -/

namespace Sys2Proof.Machine

variable {s t : State} {p : Port} {l : Latched} {rest : List Latched} {ch : ChannelNo} {a : Table Word 8}

/-! ### Writes of a record by what becomes of its eligibility (R14) -/

/-- A record that is not eligible is written, and the channel stands in no queue. -/
theorem writeChannel_of_not_eligible {c : Channel} (rests : c.eligible = false) :
    s.writeChannel ch c =
      { s with
        channels := s.channels.put ch c
        trigger := if (s.channel ch).eligible then s.trigger.leave ch else s.trigger } := by
  cases was : (s.channel ch).eligible with
  | false =>
    rw [writeChannel_of_eligible_eq s (was.trans rests.symm)]
    rfl
  | true =>
    rw [writeChannel_of_loses_eligible s was rests]
    rfl

theorem channelAble_sendAnswer (s : State) (p : Port) (x : Answer) (ch : ChannelNo) :
    (s.sendAnswer p x).channelAble ch = (s.channelAble ch).sendAnswer p x := by
  have record : (s.sendAnswer p x).channel ch = s.channel ch := rfl
  unfold State.channelAble
  rw [record]
  split
  · exact takeTrigger_sendAnswer s p x _
  · rfl

/-! ### RELEASE (R5, R47) -/

theorem Channel.eligible_free : Channel.free.eligible = false := rfl

theorem NoticeUnit.unpark_of_absent {u : NoticeUnit} (absent : ∀ x ∈ u.parking, x.channel ≠ ch) :
    u.unpark ch = u := by
  have all : u.parking.filter (fun x => x.channel != ch) = u.parking :=
    List.filter_eq_self.2 fun x hx => bne_iff_ne.2 (absent x hx)
  rw [unpark, all]

/-- A channel whose line, if any, names it and which has no parked notice becomes FREE. -/
theorem freeChannel_of_mapped {p : Port} (owner : (s.channel ch).owner = some p)
    (line : ∀ n, (s.channel ch).mappedLine = some n → (s.line n).mapping = some ⟨ch, p⟩)
    (absent : ∀ x ∈ (s.noticeUnit p).parking, x.channel ≠ ch) :
    s.freeChannel ch =
      { s with
        channels := s.channels.put ch .free
        trigger := if (s.channel ch).eligible then s.trigger.leave ch else s.trigger
        lines :=
          match (s.channel ch).mappedLine with
          | some n => s.lines.put n { s.line n with state := .unmapped, mapping := none }
          | none => s.lines } := by
  have silent (u : State) (notices : u.notices = s.notices) : u.dropNotice (some p) ch = u := by
    have same : (u.noticeUnit p).unpark ch = u.noticeUnit p := by
      rw [noticeUnit_of_same notices]
      exact NoticeUnit.unpark_of_absent absent
    rw [State.dropNotice, same, State.setNoticeUnit, State.noticeUnit, PerPort.set_get_self]
  rw [freeChannel_eq, owner]
  cases mapped : (s.channel ch).mappedLine with
  | none =>
    have drop : s.dropLine ch = s := by rw [State.dropLine, mapped]
    rw [drop, silent s rfl, writeChannel_of_not_eligible Channel.eligible_free]
  | some n =>
    have drop : s.dropLine ch = s.unmap n := by rw [State.dropLine, mapped]
    rw [drop, silent _ (by simp), writeChannel_of_not_eligible Channel.eligible_free,
      unmap_of_mapping s (line n mapped)]
    simp only [State.channel, Table.put_put, Table.row_put_self]
    congr 1
    by_cases alone : (s.channel ch).state = .ready ∧ (s.channel ch).credit = 0 ∧ (s.channel ch).linePending = true
    · have was : (s.channels.row ch).eligible = true := by
        obtain ⟨ready, -, pending⟩ := alone
        exact Channel.eligible_iff.2 ⟨ready, .inr pending⟩
      have now : ({ s.channels.row ch with mappedLine := none, linePending := false } : Channel).eligible =
          false := Channel.eligible_eq_false alone.2.1 rfl
      rw [if_neg (ne_true_of_eq_false now)]
      exact (if_pos alone).trans (if_pos was).symm
    · have same := Channel.eligible_without_line (c := s.channels.row ch) alone
      exact if_congr (by rw [← same]) (congrArg (TriggerUnit.leave · ch) (if_neg alone)) (if_neg alone)

theorem releaseAct_of_takes (check : channelCheck s p (a.row 0) true = .ok ch)
    (takes : (s.channel ch).state ∈ [ChannelState.idle, .ready, .faulted]) :
    releaseAct p a s = (.plain .ok, s.freeChannel ch) := by
  simp only [List.mem_cons, List.not_mem_nil, or_false] at takes
  obtain st | st | st := takes <;> simp [releaseAct, check, st]

theorem releaseAct_of_wrong_state (check : channelCheck s p (a.row 0) true = .ok ch)
    (wrong : (s.channel ch).state ∉ [ChannelState.idle, .ready, .faulted]) :
    releaseAct p a s = (.plain .wrongState, s) := by
  unfold releaseAct
  rw [check]
  dsimp only
  split
  iterate 3 next st => simp [st] at wrong
  rfl

/-! ### LOAD (R6–R10) -/

theorem Channel.takesLoad_iff {c : Channel} :
    c.takesLoad = true ↔
      c.state = .idle ∨ c.state = .faulted ∨ c.state = .ready ∧ c.credit = 0 ∧ c.linePending = false := by
  unfold takesLoad
  split <;> simp_all

theorem loadAct_of_wrong_state (check : channelCheck s p (a.row 0) true = .ok ch)
    (wrong : (s.channel ch).takesLoad = false) : loadAct p a s = (.plain .wrongState, s) := by
  simp [loadAct, check, wrong]

theorem loadAct_of_bad_field {k : Nat} (check : channelCheck s p (a.row 0) true = .ok ch)
    (takes : (s.channel ch).takesLoad = true) (fails : loadProgram a = .error k) :
    loadAct p a s = (.badField k, s) := by
  simp [loadAct, check, takes, fails]

theorem loadAct_of_passes {q : Program} (check : channelCheck s p (a.row 0) true = .ok ch)
    (takes : (s.channel ch).takesLoad = true) (passes : loadProgram a = .ok q) :
    loadAct p a s =
      (.plain .ok, (s.writeChannel ch ((s.channel ch).withProgram q)).channelAble ch) := by
  simp [loadAct, check, takes, passes]

/-- Of the checks that fail the first is answered. -/
theorem loadProgram_of_first_failing {k : Nat} (fails : LoadCheckFails l k)
    (first : ∀ m, m < k → ¬LoadCheckFails l m) : loadProgram l.args = .error k := by
  have outcome := loadProgram_outcome l
  cases result : loadProgram l.args with
  | ok q =>
    rw [result] at outcome
    exact absurd ((loadCheckFails_iff l k).1 fails) (outcome.2 k)
  | error m =>
    rw [result] at outcome
    obtain ⟨failing, passed⟩ := outcome
    obtain below | rfl | above := Nat.lt_trichotomy m k
    · exact absurd ((loadCheckFails_iff l m).2 failing) (first m below)
    · rfl
    · exact absurd ((loadCheckFails_iff l k).1 fails) (passed k above)

theorem loadProgram_of_passes (passes : ∀ k, ¬LoadCheckFails l k) :
    ∃ q, loadProgram l.args = .ok q ∧ LoadedFrom l q := by
  have outcome := loadProgram_outcome l
  cases result : loadProgram l.args with
  | ok q =>
    rw [result] at outcome
    exact ⟨q, rfl, outcome.1⟩
  | error m =>
    rw [result] at outcome
    exact absurd ((loadCheckFails_iff l m).2 outcome.1) (passes m)

/-! ### START (R28) -/

theorem startAct_of_wrong_state (check : channelCheck s p (a.row 0) true = .ok ch)
    (wrong : (s.channel ch).canTake = false) : startAct p a s = (.plain .wrongState, s) := by
  simp [startAct, check, wrong]

theorem startAct_of_full (check : channelCheck s p (a.row 0) true = .ok ch)
    (able : (s.channel ch).canTake = true) (full : (s.channel ch).credit = 15) :
    startAct p a s = (.plain .creditFull, s) := by
  simp [startAct, check, able, full, Config.creditMax]

theorem startAct_of_room (check : channelCheck s p (a.row 0) true = .ok ch)
    (able : (s.channel ch).canTake = true) (room : (s.channel ch).credit < 15) :
    startAct p a s =
      (.plain .ok, s.writeChannel ch { s.channel ch with credit := (s.channel ch).credit + 1 }) := by
  simp [startAct, check, able, Config.creditMax, Nat.not_le.2 room]

/-- The first trigger of a READY channel puts it at its queue's tail. -/
theorem writeChannel_of_first_credit (sound : s.RecordsSound) {d : Loaded}
    (ready : (s.channel ch).state = .ready) (credit : (s.channel ch).credit = 0)
    (line : (s.channel ch).linePending = false) (loaded : (s.channel ch).loaded = some d) :
    s.writeChannel ch { s.channel ch with credit := (s.channel ch).credit + 1 } =
      { s with
        channels := s.channels.put ch { s.channel ch with credit := (s.channel ch).credit + 1 }
        trigger := s.trigger.setQueue d.program.cls (s.trigger.queue d.program.cls ++ [ch]) } := by
  have was := Channel.eligible_eq_false credit line
  rw [writeChannel_of_becomes_eligible s was (Channel.eligible_of_credit ready _) loaded,
    TriggerUnit.join_of_not_queued fun k => sound.2.1.not_queued was k]
  rfl

theorem writeChannel_of_more_credit
    (other : ¬((s.channel ch).state = .ready ∧ (s.channel ch).credit = 0 ∧ (s.channel ch).linePending = false)) :
    s.writeChannel ch { s.channel ch with credit := (s.channel ch).credit + 1 } =
      { s with channels := s.channels.put ch { s.channel ch with credit := (s.channel ch).credit + 1 } } :=
  writeChannel_of_eligible_eq s (Channel.eligible_credit_eq other)

/-! ### ABORT (R127–R129) -/

/-- The record ABORT leaves of a READY channel. -/
def Channel.aborted (c : Channel) : Channel := { c with state := .idle, credit := 0, linePending := false }

theorem abortReady_of_pending {n : LineNo} (waits : (s.channel ch).linePending = true)
    (mapped : (s.channel ch).mappedLine = some n) (pending : (s.line n).state = .pending) :
    s.abortReady ch =
      (s.setLine n { s.line n with state := .waiting }).writeChannel ch (s.channel ch).aborted := by
  simp [State.abortReady, waits, mapped, pending, Channel.aborted]

theorem abortReady_of_not_pending (idle : (s.channel ch).linePending = false) :
    s.abortReady ch = s.writeChannel ch (s.channel ch).aborted := by
  unfold State.abortReady Channel.aborted
  dsimp only
  split
  · simp [idle]
  · rfl

/-- ABORT in READY with the whole next state. -/
theorem abortReady_eq (ready : (s.channel ch).state = .ready)
    (waits : (s.channel ch).linePending = true →
      ∃ n, (s.channel ch).mappedLine = some n ∧ (s.line n).state = .pending) :
    s.abortReady ch =
      { s with
        channels := s.channels.put ch (s.channel ch).aborted
        trigger :=
          if 0 < (s.channel ch).credit ∨ (s.channel ch).linePending = true then s.trigger.leave ch
          else s.trigger
        lines :=
          match (s.channel ch).linePending, (s.channel ch).mappedLine with
          | true, some n => s.lines.put n { s.line n with state := .waiting }
          | _, _ => s.lines } := by
  have rests : (s.channel ch).aborted.eligible = false := Channel.eligible_eq_false rfl rfl
  have queued : (if (s.channel ch).eligible then s.trigger.leave ch else s.trigger) =
      if 0 < (s.channel ch).credit ∨ (s.channel ch).linePending = true then s.trigger.leave ch
      else s.trigger := by
    refine if_congr ?_ rfl rfl
    rw [Channel.eligible_iff]
    exact and_iff_right ready
  cases held : (s.channel ch).linePending with
  | true =>
    obtain ⟨n, mapped, pending⟩ := waits held
    rw [held] at queued
    rw [abortReady_of_pending held mapped pending, writeChannel_of_not_eligible rests, mapped, ← queued]
    rfl
  | false =>
    rw [held] at queued
    rw [abortReady_of_not_pending held, writeChannel_of_not_eligible rests, ← queued]

section
variable (check : channelCheck s p (a.row 0) true = .ok ch)
include check

theorem abortAct_of_ready (st : (s.channel ch).state = .ready) :
    abortAct p a s = (.plain .ok, s.abortReady ch) := by
  simp [abortAct, check, st]

theorem abortAct_of_running (st : (s.channel ch).state = .running) :
    abortAct p a s =
      (.plain .accepted,
        (s.setChannel ch { s.channel ch with state := .stopping }).sendCause ⟨ch, .abort⟩) := by
  have same : (s.channel ch).eligible = { s.channel ch with state := .stopping }.eligible := by
    rw [Channel.eligible_of_not_ready (by simp [st]), Channel.eligible_of_not_ready (by simp)]
  simp only [abortAct, check, st]
  rw [writeChannel_of_eligible_eq s same]

theorem abortAct_of_posting (st : (s.channel ch).state = .posting) :
    abortAct p a s =
      (.plain .ok, s.setChannel ch { s.channel ch with afterState := some .idle, credit := 0 }) := by
  have same : (s.channel ch).eligible =
      { s.channel ch with afterState := some .idle, credit := 0 }.eligible := by
    rw [Channel.eligible_of_not_ready (by simp [st]), Channel.eligible_of_not_ready (by simp [st])]
  simpa [abortAct, check, st] using writeChannel_of_eligible_eq s same

theorem abortAct_of_faulted (st : (s.channel ch).state = .faulted) :
    abortAct p a s = (.plain .ok, s.setChannel ch { s.channel ch with state := .idle }) := by
  have same : (s.channel ch).eligible = { s.channel ch with state := .idle }.eligible := by
    rw [Channel.eligible_of_not_ready (by simp [st]), Channel.eligible_of_not_ready (by simp)]
  simp only [abortAct, check, st]
  rw [writeChannel_of_eligible_eq s same]

theorem abortAct_of_free (st : (s.channel ch).state = .free) : abortAct p a s = (.plain .notOwner, s) := by
  simp [abortAct, check, st]

theorem abortAct_of_idle (st : (s.channel ch).state = .idle) : abortAct p a s = (.plain .ok, s) := by
  simp [abortAct, check, st]

theorem abortAct_of_stopping (st : (s.channel ch).state = .stopping) :
    abortAct p a s = (.plain .accepted, s) := by
  simp [abortAct, check, st]

/-! ### RESUME (R131, R132) -/

theorem resumeAct_of_wrong_state (wrong : (s.channel ch).state ≠ .faulted) :
    resumeAct p a s = (.plain .wrongState, s) := by
  simp only [resumeAct, check]
  split
  · next st _ => exact absurd st wrong
  · rfl

theorem resumeAct_of_bad_field {d : Loaded} {k : Nat} (st : (s.channel ch).state = .faulted)
    (loaded : (s.channel ch).loaded = some d)
    (fails : rangeCheck d.program d.curSrc d.curDst d.remaining = some k) :
    resumeAct p a s = (.badField k, s) := by
  simp [resumeAct, check, st, loaded, fails]

theorem resumeAct_of_passes {d : Loaded} (st : (s.channel ch).state = .faulted)
    (loaded : (s.channel ch).loaded = some d)
    (passes : rangeCheck d.program d.curSrc d.curDst d.remaining = none) :
    resumeAct p a s =
      (.plain .ok,
        (s.setChannel ch { s.channel ch with state := .ready, credit := 0, linePending := false }).channelAble
          ch) := by
  have same : (s.channel ch).eligible =
      { s.channel ch with state := .ready, credit := 0, linePending := false }.eligible := by
    rw [Channel.eligible_of_not_ready (by simp [st]), Channel.eligible_eq_false rfl rfl]
  have moved := writeChannel_of_eligible_eq s same
  simp only [loaded] at moved
  simp only [resumeAct, check, st, loaded, passes, moved]

end

/-- What checks 10, 11 and 16 find: the first that fails, or none. -/
def RangeOutcome (fails : Nat → Prop) : Option Nat → Prop
  | some k => fails k ∧ ∀ m < k, ¬fails m
  | none => ∀ k, ¬fails k

theorem rangeCheck_outcome (q : Program) (src dst : Word) (n : Nat) :
    RangeOutcome
      (RangeCheckFails ⟨domainValue q.src.domain, q.src.step.value, src.toNat⟩
        ⟨domainValue q.dst.domain, q.dst.step.value, dst.toNat⟩ n q.size.bytes
        (if q.mode.value = 2 then min q.mode.blockLength n else n))
      (rangeCheck q src dst n) := by
  have listed {x y : SideCode} {n z b k : Nat} (fails : RangeCheckFails x y n z b k) :
      k = 10 ∨ k = 11 ∨ k = 16 := by
    obtain ⟨is, -⟩ | ⟨is, -⟩ | ⟨is, -⟩ := fails <;> simp [is]
  unfold rangeCheck
  simp only [byteRange_eq, blockSpan_eq]
  generalize (if q.mode.value = 2 then min q.mode.blockLength n else n) = b
  split
  · next fails10 =>
    refine ⟨.inl ⟨rfl, fits_eq_false.1 (by simpa using fails10)⟩, fun m below fails => ?_⟩
    have := listed fails
    omega
  · next fits10 =>
    have pass10 := mt fits_eq_false.2 (by simpa using fits10)
    split
    · next fails11 =>
      refine ⟨.inr (.inl ⟨rfl, fits_eq_false.1 (by simpa using fails11)⟩), fun m below fails => ?_⟩
      obtain ⟨-, c⟩ | ⟨is, -⟩ | ⟨is, -⟩ := fails
      · exact pass10 c
      · omega
      · omega
    · next fits11 =>
      have pass11 := mt fits_eq_false.2 (by simpa using fits11)
      split
      · next meets =>
        obtain ⟨domain, src, dst, lo, hi⟩ := (overlaps_iff _ _ _ _).1 meets
        refine ⟨.inr (.inr ⟨rfl, domain, src, dst, lo, hi⟩), fun m below fails => ?_⟩
        obtain ⟨-, c⟩ | ⟨-, c⟩ | ⟨is, -⟩ := fails
        · exact pass10 c
        · exact pass11 c
        · omega
      · next apart =>
        intro k fails
        obtain ⟨-, c⟩ | ⟨-, c⟩ | ⟨-, domain, src, dst, lo, hi⟩ := fails
        · exact pass10 c
        · exact pass11 c
        · exact apart ((overlaps_iff _ _ _ _).2 ⟨domain, src, dst, lo, hi⟩)

theorem RangeOutcome.eq_some {fails : Nat → Prop} {o : Option Nat} {k : Nat} (h : RangeOutcome fails o)
    (this : fails k) (first : ∀ m < k, ¬fails m) : o = some k := by
  cases o with
  | none => exact absurd this (h k)
  | some m =>
    obtain ⟨failing, passed⟩ := h
    obtain below | rfl | above := Nat.lt_trichotomy m k
    · exact absurd failing (first m below)
    · rfl
    · exact absurd this (passed k above)

theorem RangeOutcome.eq_none {fails : Nat → Prop} {o : Option Nat} (h : RangeOutcome fails o)
    (passes : ∀ k, ¬fails k) : o = none := by
  cases o with
  | none => rfl
  | some m => exact absurd h.1 (passes m)

end Sys2Proof.Machine

open Sys2Proof Sys2Proof.Machine

/-- Settles O14: freeing the channel takes its queue place and its line with it. -/
theorem releaseFreesChannel : Obligations.ReleaseFreesChannel := by
  intro s p l rest ch handed online number owner line parked
  have check : channelCheck (s.setHanded p rest) p (l.args.row 0) true = .ok ch :=
    channelCheck_of_owner online number owner
  split
  · next takes =>
    have absent : ∀ x ∈ (s.noticeUnit p).parking, x.channel ≠ ch := fun x hx here => by
      rw [parked x hx here] at takes
      simp at takes
    have frees := releaseAct_of_takes check takes
    rw [freeChannel_of_mapped (s := s.setHanded p rest) owner line absent] at frees
    exact ChannelCommand.release.takes s p l rest _ _ handed frees
  · next wrong => exact ChannelCommand.release.answers handed (releaseAct_of_wrong_state check wrong)

/-- Settles O15: the outcome of the sixteen checks is the first that fails. -/
theorem loadReportsFirstFailingCheck : Obligations.LoadReportsFirstFailingCheck := by
  intro s p l rest ch handed online number owner
  have check : channelCheck (s.setHanded p rest) p (l.args.row 0) true = .ok ch :=
    channelCheck_of_owner online number owner
  refine ⟨fun wrong => ?_, fun takes k fails first => ?_⟩
  · have refused : ((s.setHanded p rest).channel ch).takesLoad = false :=
      Bool.eq_false_iff.2 fun takes => wrong (Channel.takesLoad_iff.1 takes)
    exact ChannelCommand.load.answers handed (loadAct_of_wrong_state check refused)
  · exact ChannelCommand.load.answers handed (loadAct_of_bad_field check (Channel.takesLoad_iff.2 takes)
      (loadProgram_of_first_failing fails first))

/-- Settles O16: the program that passes has the fields of the block, and READY without a trigger is in no
queue until its line takes one. -/
theorem loadReplacesProgram : Obligations.LoadReplacesProgram := by
  intro s p l rest ch handed online number owner takes quiet passes
  have check : channelCheck (s.setHanded p rest) p (l.args.row 0) true = .ok ch :=
    channelCheck_of_owner online number owner
  have able : ((s.setHanded p rest).channel ch).takesLoad = true := Channel.takesLoad_iff.2 takes
  obtain ⟨q, loads, fields⟩ := loadProgram_of_passes passes
  refine ⟨q, fields.mode, fields.blockLength, fields.bytes, fields.srcStep, fields.dstStep, fields.srcDomain,
    fields.dstDomain, fields.srcStart, fields.dstStart, fields.count, fields.hasLink, fields.link, fields.cls,
    fields.readAhead, fields.policy, ?_⟩
  have same : ((s.setHanded p rest).channel ch).eligible = ((s.channel ch).withProgram q).eligible :=
    (takesLoad_not_eligible able).trans
      (Channel.eligible_eq_false (c := (s.channel ch).withProgram q) rfl quiet).symm
  have acts := loadAct_of_passes check able loads
  rw [show (s.setHanded p rest).channel ch = s.channel ch from rfl, writeChannel_of_eligible_eq _ same] at acts
  rw [ChannelCommand.load.takes s p l rest _ _ handed acts, ← channelAble_sendAnswer]
  rfl

/-- Settles O22: by state, by credit, and by whether the channel held a trigger. -/
theorem startAddsOneCredit : Obligations.StartAddsOneCredit := by
  intro s p l rest ch handed online number owner sound
  have check : channelCheck (s.setHanded p rest) p (l.args.row 0) true = .ok ch :=
    channelCheck_of_owner online number owner
  refine ⟨fun wrong => ?_, fun able full => ?_, fun able room => ⟨fun ready credit line d loaded => ?_,
    fun other => ?_⟩⟩
  · have refused : ((s.setHanded p rest).channel ch).canTake = false :=
      Bool.eq_false_iff.2 fun takes => wrong ((Channel.canTake_iff _).1 takes)
    exact ChannelCommand.start.answers handed (startAct_of_wrong_state check refused)
  · exact ChannelCommand.start.answers handed (startAct_of_full check ((Channel.canTake_iff _).2 able) full)
  · have acts := startAct_of_room check ((Channel.canTake_iff _).2 able) room
    rw [writeChannel_of_first_credit (s := s.setHanded p rest) sound ready credit line loaded] at acts
    exact ChannelCommand.start.takes s p l rest _ _ handed acts
  · have acts := startAct_of_room check ((Channel.canTake_iff _).2 able) room
    rw [writeChannel_of_more_credit (s := s.setHanded p rest) other] at acts
    exact ChannelCommand.start.takes s p l rest _ _ handed acts

/-- Settles O23: one case for each state. -/
theorem abortActsByState : Obligations.AbortActsByState := by
  intro s p l rest ch handed online number owner waits
  have check : channelCheck (s.setHanded p rest) p (l.args.row 0) true = .ok ch :=
    channelCheck_of_owner online number owner
  have takes := ChannelCommand.abort.takes s p l rest
  dsimp only
  cases st : (s.channel ch).state with
  | free => exact takes _ _ handed (abortAct_of_free check st)
  | idle => exact takes _ _ handed (abortAct_of_idle check st)
  | ready =>
    have acts := abortAct_of_ready check st
    rw [abortReady_eq (s := s.setHanded p rest) st waits] at acts
    exact takes _ _ handed acts
  | running => exact takes _ _ handed (abortAct_of_running check st)
  | stopping => exact takes _ _ handed (abortAct_of_stopping check st)
  | posting =>
    have acts := abortAct_of_posting check st
    simp only [show (s.setHanded p rest).channel ch = s.channel ch from rfl, st] at acts
    exact takes _ _ handed acts
  | faulted => exact takes _ _ handed (abortAct_of_faulted check st)

/-- Settles O24: the range checks over what remains, and then READY. -/
theorem resumeChecksTheRest : Obligations.ResumeChecksTheRest := by
  intro s p l rest ch handed online number owner
  have check : channelCheck (s.setHanded p rest) p (l.args.row 0) true = .ok ch :=
    channelCheck_of_owner online number owner
  refine ⟨fun wrong => ?_, fun st d loaded => ⟨fun k fails first => ?_, fun passes => ?_⟩⟩
  · exact ChannelCommand.resume.answers handed (resumeAct_of_wrong_state check wrong)
  · exact ChannelCommand.resume.answers handed
      (resumeAct_of_bad_field check st loaded ((rangeCheck_outcome _ _ _ _).eq_some fails first))
  · have acts := resumeAct_of_passes check st loaded ((rangeCheck_outcome _ _ _ _).eq_none passes)
    rw [ChannelCommand.resume.takes s p l rest _ _ handed acts, ← channelAble_sendAnswer]
    rfl

end

section
/-! PROOFS. READ_CHANNEL: the words of its three views as sums of their fields, and what each port is shown
(R12, R165, Tables 10-5 and 10-6). -/

namespace Sys2Proof.Machine

variable {s : State} {p : Port} {ch : ChannelNo} {a : Table Word 8}

/-! ### The codes of the fields fit their places -/

theorem ChannelState.value_lt (x : ChannelState) : x.value < 2 ^ 3 := by cases x <;> decide

theorem ownerValue_lt (o : Option Port) : ownerValue o < 2 ^ 2 := by
  obtain _ | x := o
  · decide
  · cases x <;> decide

theorem AfterState.value_lt (x : AfterState) : x.value < 2 ^ 2 := by cases x <;> decide

theorem Origin.value_lt (x : Origin) : x.value < 2 ^ 1 := by cases x <;> decide

theorem FaultKind.value_lt (x : FaultKind) : x.value < 2 ^ 3 := by cases x <;> decide

theorem Mode.value_lt (x : Mode) : x.value < 2 ^ 2 := by cases x <;> simp [Mode.value]

theorem ElementSize.value_lt (x : ElementSize) : x.value < 2 ^ 3 := by cases x <;> decide

theorem Stepping.value_lt (x : Stepping) : x.value < 2 ^ 3 := by cases x <;> decide

theorem domainValue_lt (x : Domain) : domainValue x < 2 ^ 1 := by cases x <;> decide

theorem SchedClass.value_lt (x : SchedClass) : x.value < 2 ^ 2 := by cases x <;> decide

theorem ReadAhead.value_lt (x : ReadAhead) : x.value < 2 ^ 3 := by cases x <;> decide

theorem NoticePolicy.value_lt (x : NoticePolicy) : x.value < 2 ^ 2 := by cases x <;> decide

theorem LinkCondition.value_lt (x : LinkCondition) : x.value < 2 ^ 1 := by cases x <;> decide

theorem flag_lt (b : Bool) : flag b < 2 ^ 1 := by cases b <;> decide

/-! ### A field with a presence bit above it -/

/-- A field of `k` bits at `lo` with its presence bit above it; nothing where there is no field. -/
def optionalField {α : Type} (lo k : Nat) (value : α → Nat) (o : Option α) : Word :=
  o.elim 0 fun x => place lo (value x) ||| place (lo + k) 1

theorem Packs.optional {α : Type} {w : Word} {n lo : Nat} (h : Packs w n lo) (k : Nat) {value : α → Nat}
    (o : Option α) (bound : ∀ x, value x < 2 ^ k) (fits : lo + k + 1 ≤ 32) :
    Packs (w ||| optionalField lo k value o)
      (n + 2 ^ lo * o.elim 0 value + 2 ^ (lo + k) * Machine.flag o.isSome) (lo + k + 1) := by
  cases o with
  | none =>
    have below := h.mono (show lo ≤ lo + k + 1 by omega)
    simpa [optionalField, Machine.flag] using below
  | some x =>
    have whole := (h.or k (bound x) (by omega)).or 1 (v := 1) (by decide) fits
    rw [BitVec.or_assoc] at whole
    exact whole

/-! ### The STATUS view -/

section
variable (c : Channel)

theorem statusPublic_packs : Packs (statusPublic c) (c.state.value + 2 ^ 3 * ownerValue c.owner) (3 + 2) :=
  (packs_place c.state.value_lt (by decide)).or 2 (ownerValue_lt c.owner) (by decide)

theorem statusWord_eq :
    statusWord c =
      statusPublic c ||| place 5 c.credit ||| place 9 (flag c.linePending)
        ||| optionalField 10 4 Fin.val c.mappedLine
        ||| optionalField 15 2 AfterState.value c.afterState
        ||| optionalField 18 1 Origin.value c.origin
        ||| place 20 (flag c.loaded.isSome) ||| place 21 (flag c.fault.isSome) := by
  unfold statusWord
  cases c.mappedLine <;> cases c.afterState <;> cases c.origin <;> rfl

theorem statusWord_packs (credit : c.credit ≤ 15) :
    Packs (statusWord c)
      (c.state.value + 2 ^ 3 * ownerValue c.owner + 2 ^ 5 * c.credit + 2 ^ 9 * flag c.linePending
        + 2 ^ 10 * c.mappedLine.elim 0 Fin.val + 2 ^ 14 * flag c.mappedLine.isSome
        + 2 ^ 15 * c.afterState.elim 0 AfterState.value + 2 ^ 17 * flag c.afterState.isSome
        + 2 ^ 18 * c.origin.elim 0 Origin.value + 2 ^ 19 * flag c.origin.isSome
        + 2 ^ 20 * flag c.loaded.isSome + 2 ^ 21 * flag c.fault.isSome) 22 := by
  have trigger := ((statusPublic_packs c).or 4 (v := c.credit) (by omega) (by decide)).or 1
    (flag_lt c.linePending) (by decide)
  have line := trigger.optional 4 (value := Fin.val) c.mappedLine (fun n => n.isLt) (by decide)
  have served := (line.optional 2 c.afterState AfterState.value_lt (by decide)).optional 1 c.origin
    Origin.value_lt (by decide)
  rw [statusWord_eq]
  exact (served.or 1 (flag_lt c.loaded.isSome) (by decide)).or 1 (flag_lt c.fault.isSome) (by decide)

theorem Option.elim_lt {α : Type} {value : α → Nat} {k : Nat} (bound : ∀ x, value x < k) (pos : 0 < k)
    (o : Option α) : o.elim 0 value < k := by
  cases o with
  | none => exact pos
  | some x => exact bound x

/-- Every field of the STATUS word, read at its place (Table 10-6). -/
structure StatusFields (x : Nat) : Prop where
  state : field x 0 3 = c.state.value
  owner : field x 3 2 = ownerValue c.owner
  credit : field x 5 4 = c.credit
  linePending : field x 9 1 = flag c.linePending
  hasLine : field x 14 1 = flag c.mappedLine.isSome
  line : field x 10 4 = c.mappedLine.elim 0 Fin.val
  hasAfter : field x 17 1 = flag c.afterState.isSome
  after : field x 15 2 = c.afterState.elim 0 AfterState.value
  hasOrigin : field x 19 1 = flag c.origin.isSome
  origin : field x 18 1 = c.origin.elim 0 Origin.value
  loaded : field x 20 1 = flag c.loaded.isSome
  fault : field x 21 1 = flag c.fault.isSome
  above : field x 22 10 = 0

theorem statusFields (credit : c.credit ≤ 15) : StatusFields c (statusWord c).toNat := by
  have state := c.state.value_lt
  have owner := ownerValue_lt c.owner
  have pending := flag_lt c.linePending
  have hasLine := flag_lt c.mappedLine.isSome
  have line := Option.elim_lt (value := Fin.val) (k := 16) (fun n => n.isLt) (by decide) c.mappedLine
  have hasAfter := flag_lt c.afterState.isSome
  have after := Option.elim_lt AfterState.value_lt (by decide) c.afterState
  have hasOrigin := flag_lt c.origin.isSome
  have origin := Option.elim_lt Origin.value_lt (by decide) c.origin
  have loaded := flag_lt c.loaded.isSome
  have fault := flag_lt c.fault.isSome
  have value := (statusWord_packs c credit).value
  constructor <;> rw [value, field] <;> omega

theorem statusView_row_zero : (statusView c).row 0 = statusWord c := by
  unfold statusView
  cases c.loaded <;> rfl

end

/-! ### The PROGRAM view -/

/-- The first register of the PROGRAM view. -/
def programWord (q : Program) : Word :=
  place 0 q.mode.value ||| place 2 q.size.value ||| place 5 q.src.step.value
    ||| place 8 q.dst.step.value ||| place 11 (domainValue q.src.domain)
    ||| place 12 (domainValue q.dst.domain) ||| place 13 q.cls.value
    ||| place 15 q.readAhead.value ||| place 18 q.policy.value
    ||| place 20 q.mode.blockLength ||| place 31 1

/-- What the link adds to the fourth register. -/
def linkValue (link : Option Link) : Nat :=
  link.elim 0 fun k => 2 ^ 24 * k.target.val + 2 ^ 30 * k.condition.value + 2 ^ 31

def linkWord (q : Program) : Word :=
  place 0 q.count |||
    q.link.elim 0 fun k => place 24 k.target.val ||| place 30 k.condition.value ||| place 31 1

theorem programView_of_loaded {c : Channel} {d : Loaded} (loaded : c.loaded = some d) :
    programView c =
      results (programWord d.program) d.program.src.start d.program.dst.start (linkWord d.program) := by
  unfold programView
  rw [loaded]
  dsimp only
  unfold programWord linkWord
  cases d.program.link <;> rfl

theorem programWord_packs {q : Program} (block : q.mode.blockLength ≤ 255) :
    Packs (programWord q)
      (q.mode.value + 2 ^ 2 * q.size.value + 2 ^ 5 * q.src.step.value + 2 ^ 8 * q.dst.step.value
        + 2 ^ 11 * domainValue q.src.domain + 2 ^ 12 * domainValue q.dst.domain
        + 2 ^ 13 * q.cls.value + 2 ^ 15 * q.readAhead.value + 2 ^ 18 * q.policy.value
        + 2 ^ 20 * q.mode.blockLength + 2 ^ 31) 32 := by
  have sides := ((((packs_place q.mode.value_lt (by decide)).or 3 q.size.value_lt (by decide)).or 3
    q.src.step.value_lt (by decide)).or 3 q.dst.step.value_lt (by decide)).or 1
    (domainValue_lt q.src.domain) (by decide)
  have codes := (((sides.or 1 (domainValue_lt q.dst.domain) (by decide)).or 2 q.cls.value_lt
    (by decide)).or 3 q.readAhead.value_lt (by decide)).or 2 q.policy.value_lt (by decide)
  have length := (codes.or 8 (v := q.mode.blockLength) (by omega) (by decide)).mono (show 28 ≤ 31 by decide)
  exact length.or 1 (v := 1) (by decide) (by decide)

theorem toNat_linkWord {q : Program} (count : q.count < 2 ^ 24) :
    (linkWord q).toNat = q.count + linkValue q.link := by
  have lowest := packs_place count (by decide)
  unfold linkWord linkValue
  cases q.link with
  | none => simpa using lowest.value
  | some k =>
    have whole := ((lowest.or 6 k.target.isLt (by decide)).or 1 k.condition.value_lt (by decide)).or 1
      (v := 1) (by decide) (by decide)
    rw [BitVec.or_assoc, BitVec.or_assoc, ← BitVec.or_assoc (place 24 _)] at whole
    rw [Option.elim_some, Option.elim_some, whole.value]
    omega

/-! ### The FAULT view -/

theorem toNat_faultWord (f : FaultRecord) :
    (place 0 1 ||| place 1 f.kind.value ||| place 4 (domainValue f.domain)
      ||| place 5 (flag f.collateral)).toNat =
      1 + 2 * f.kind.value + 16 * domainValue f.domain + 32 * flag f.collateral :=
  ((((packs_place (v := 1) (hi := 1) (by decide) (by decide)).or 3 f.kind.value_lt (by decide)).or 1
    (domainValue_lt f.domain) (by decide)).or 1 (flag_lt f.collateral) (by decide)).value

/-! ### What each port is shown -/

theorem channelView_of_owner {c : Channel} (owner : c.owner = some p) :
    channelView p 0 c = statusView c ∧ channelView p 1 c = programView c ∧
      channelView p 2 c = faultView c := by
  simp [channelView, owner]

theorem channelView_of_not_owner {c : Channel} {view : Nat} (owner : c.owner ≠ some p) :
    channelView p view c = results (statusPublic c) 0 0 0 := if_neg owner

theorem channelCheck_of_number {w : Word} (online : s.online p = true) (number : w.toNat = ch.val) :
    channelCheck s p w false = .ok ch := by
  simp [channelCheck, online, channelArg_of_toNat_eq number]

theorem readChannelAct_of_bad_view (check : channelCheck s p (a.row 0) false = .ok ch)
    (bad : 2 < (a.row 1).toNat) : readChannelAct p a s = (.badField 1, s) := by
  simp [readChannelAct, check, bad]

theorem readChannelAct_of_view (check : channelCheck s p (a.row 0) false = .ok ch)
    (good : (a.row 1).toNat ≤ 2) :
    readChannelAct p a s = (⟨.ok, channelView p (a.row 1).toNat (s.channel ch)⟩, s) := by
  simp [readChannelAct, check, Nat.not_lt.2 good]

theorem results_zero (i : Fin 4) : (results 0 0 0 0).row i = 0 := by
  fin_cases i <;> rfl

/-- The link of a block that passes, as the fourth register shows it. -/
theorem LoadedFrom.linkValue {l : Latched} {q : Program} (h : LoadedFrom l q) :
    linkValue q.link =
      field (l.arg 6) 9 1 * (2 ^ 24 * field (l.arg 6) 0 8 + 2 ^ 30 * field (l.arg 6) 8 1 + 2 ^ 31) := by
  have present := h.hasLink
  cases link : q.link with
  | none =>
    rw [link] at present
    have bit : field (l.arg 6) 9 1 < 2 := Nat.mod_lt _ (by decide)
    have absent : field (l.arg 6) 9 1 = 0 := by
      have := mt present.2 (by simp)
      omega
    rw [absent, Nat.zero_mul]
    rfl
  | some k =>
    obtain ⟨target, condition⟩ := h.link k link
    rw [link] at present
    rw [present.1 rfl, Nat.one_mul, ← target, ← condition]
    rfl

theorem LoadedFrom.blockLength_le {l : Latched} {q : Program} (h : LoadedFrom l q) :
    q.mode.blockLength ≤ 255 := by
  cases mode : q.mode with
  | single => exact Nat.zero_le _
  | run => exact Nat.zero_le _
  | block n => exact (h.block n mode).2

end Sys2Proof.Machine

open Sys2Proof Sys2Proof.Machine

/-- Settles O17: the view packs the codes that the block held. -/
theorem programViewGivesBlockBack : Obligations.ProgramViewGivesBlockBack := by
  intro l q s p m rest ch loads handed online number view owner loaded
  obtain ⟨x, y, n, loaded⟩ := loaded
  have from_ : LoadedFrom l q := by
    have outcome := loadProgram_outcome l
    rw [loads] at outcome
    exact outcome.1
  have check : channelCheck (s.setHanded p rest) p (m.args.row 0) false = .ok ch :=
    channelCheck_of_number online number
  have acts : readChannelAct p m.args (s.setHanded p rest) =
      (⟨.ok, channelView p (m.args.row 1).toNat (s.channel ch)⟩, s.setHanded p rest) :=
    readChannelAct_of_view check (view.le.trans (by decide))
  rw [show (m.args.row 1).toNat = 1 from view, (channelView_of_owner owner).2.1,
    programView_of_loaded loaded] at acts
  refine ⟨_, ChannelCommand.readChannel.answers handed acts, ?_, from_.srcStart, from_.dstStart, ?_⟩
  · refine (programWord_packs from_.blockLength_le).value.trans ?_
    rw [from_.mode, from_.size, from_.srcStep, from_.dstStep, from_.srcDomain, from_.dstDomain, from_.cls,
      from_.readAhead, from_.policy, from_.blockLength]
  · refine (toNat_linkWord (q := q) (by have := from_.counted; omega)).trans ?_
    rw [from_.count, from_.linkValue]

/-- Settles O18: each view, register by register. -/
theorem readChannelShowsRecord : Obligations.ReadChannelShowsRecord := by
  intro s p l rest ch handed online number credit
  have check : channelCheck (s.setHanded p rest) p (l.args.row 0) false = .ok ch :=
    channelCheck_of_number online number
  refine ⟨fun bad => ChannelCommand.readChannel.answers handed (readChannelAct_of_bad_view check bad),
    fun good => ⟨channelView p (l.arg 1) (s.channel ch),
      ChannelCommand.readChannel.answers handed (readChannelAct_of_view check good), ?_⟩⟩
  refine ⟨fun other => ?_, fun owner view => ?_, fun owner view => ?_, fun owner view => ?_⟩
  · rw [channelView_of_not_owner other]
    exact ⟨(statusPublic_packs _).value, rfl, rfl, rfl⟩
  · rw [view, (channelView_of_owner owner).1, statusView_row_zero]
    have fields := statusFields (s.channel ch) credit
    refine ⟨fields.state, fields.owner, fields.credit, fields.linePending,
      ⟨fields.hasLine, fun n mapped => ?_⟩, ⟨fields.hasAfter, fun x after => ?_⟩,
      ⟨fields.hasOrigin, fun o origin => ?_⟩, fields.loaded, fields.fault, fields.above,
      fun d loaded => ?_, fun empty => ?_⟩
    · rw [fields.line, mapped, Option.elim_some]
    · rw [fields.after, after, Option.elim_some]
    · rw [fields.origin, origin, Option.elim_some]
    · rw [statusView, loaded]
      exact ⟨rfl, rfl, toNat_place_zero _⟩
    · rw [statusView, empty]
      exact ⟨rfl, rfl, rfl⟩
  · rw [view, (channelView_of_owner owner).2.1]
    refine ⟨fun empty i => ?_, fun d loaded block count => ?_⟩
    · rw [programView, empty]
      exact results_zero i
    · rw [programView_of_loaded loaded]
      refine ⟨(programWord_packs block).value, rfl, rfl, (toNat_linkWord count).trans ?_⟩
      cases d.program.link <;> rfl
  · rw [view, (channelView_of_owner owner).2.2]
    refine ⟨fun none i => ?_, fun f fault => ?_⟩
    · rw [faultView, none]
      exact results_zero i
    · rw [faultView, fault]
      exact ⟨toNat_faultWord f, rfl, toNat_place_zero _, rfl⟩

end

section
/-! PROOFS. READ_ENGINES: the parts asked for, sent, and gathered (R74, Table 10-7). -/

namespace Sys2Proof.Machine

variable {s : State} {p : Port} {g : Gather} {x : EnginesPart} {l : Latched}

/-- The first element that qualifies is taken, the others staying in their order. -/
theorem takeFirst_append {α : Type} {f : α → Bool} {before after : List α} {x : α}
    (others : ∀ y ∈ before, f y = false) (this : f x = true) :
    takeFirst f (before ++ x :: after) = some (x, before ++ after) := by
  induction before with
  | nil => simp [takeFirst, this]
  | cons y ys ih =>
    obtain ⟨first, rest⟩ := List.forall_mem_cons.1 others
    simp [takeFirst, first, ih rest]

/-! ### The view an engine sends of itself -/

theorem engineView_linesHeld (s : State) (p : Port) (e : EngineNo) :
    (s.engineView p e).linesHeld = (s.poolEngine e).held.length := by
  unfold State.engineView
  cases (s.engine e).phase <;> rfl

/-! ### The parts gathered -/

theorem Gather.complete_of_all {v : Table EngineView 4} {n : Nat}
    (engines : ∀ e, g.engines.row e = some (v.row e)) (pool : g.pool = some n) :
    g.complete = some (v, n) := by
  have same : ((((Table.fill 4 (v.row 0)).put 1 (v.row 1)).put 2 (v.row 2)).put 3 (v.row 3)) = v :=
    Table.ext_row fun i => by fin_cases i <;> rfl
  unfold complete
  simp only [engines, pool]
  rw [same]

theorem Gather.all_of_complete {v : Table EngineView 4} {n : Nat} (complete : g.complete = some (v, n)) :
    (∀ e, g.engines.row e = some (v.row e)) ∧ g.pool = some n := by
  unfold Gather.complete at complete
  split at complete
  · next a b c d m row0 row1 row2 row3 pool =>
    cases complete
    refine ⟨fun e => ?_, pool⟩
    fin_cases e
    · exact row0
    · exact row1
    · exact row2
    · exact row3
  · cases complete

/-! ### A part reaches the Port Command Unit -/

theorem takePart_of_other_cycle (gather : (s.port p).gather = some g) (other : x.cycle ≠ g.cycle) :
    s.takePart p x = s := by
  simp [State.takePart, gather, Ne.symm other]

section
variable (gather : (s.port p).gather = some g) (cycle : x.cycle = g.cycle)
include gather cycle

theorem takePart_of_incomplete (incomplete : (g.add x.body).complete = none) :
    s.takePart p x = s.setPort p { s.port p with gather := some (g.add x.body) } := by
  simp [State.takePart, gather, cycle, incomplete]

theorem takePart_of_complete {v : Table EngineView 4} {n : Nat}
    (complete : (g.add x.body).complete = some (v, n)) :
    s.takePart p x =
      (s.setPort p { s.port p with gather := none }).writeAnswer p
        ⟨g.cycle, enginesReply (s.online p) v n⟩ := by
  simp [State.takePart, gather, cycle, complete]

/-- The last part brings the answer of the cycle latched. -/
theorem takePart_answers {v : Table EngineView 4} {n : Nat} (latched : (s.port p).latched = some l)
    (current : g.cycle = l.cycle) (complete : (g.add x.body).complete = some (v, n)) :
    s.takePart p x =
      s.setPort p
        { s.port p with
          gather := none, latched := none
          result := (enginesReply (s.online p) v n).code
          res := (enginesReply (s.online p) v n).res } := by
  have unit : (s.setPort p { s.port p with gather := none }).port p = { s.port p with gather := none } := by
    simp
  rw [takePart_of_complete gather cycle complete,
    writeAnswer_of_cycle (l := l) _ p (by rw [unit]; exact latched) current.symm, unit]
  simp [State.setPort]

end

theorem writeAnswer_setWires (s : State) (p : Port) (w : Wires) (a : Answer) :
    (s.setWires w).writeAnswer p a = (s.writeAnswer p a).setWires w := by
  have ports : (s.setWires w).port p = s.port p := rfl
  unfold State.writeAnswer
  dsimp only
  rw [ports]
  split
  · split <;> rfl
  · rfl

theorem takePart_setWires (w : Wires) : (s.setWires w).takePart p x = (s.takePart p x).setWires w := by
  have ports : (s.setWires w).port p = s.port p := rfl
  unfold State.takePart
  dsimp only
  rw [ports]
  split
  · rfl
  · split
    · split
      · rfl
      · exact writeAnswer_setWires (s.setPort p { s.port p with gather := none }) p w _
    · rfl

end Sys2Proof.Machine

open Sys2Proof Sys2Proof.Machine

/-- Settles O20: the asking, the parts sent, what complete means, and the answer of the last part. -/
theorem readEnginesGathersFiveParts : Obligations.ReadEnginesGathersFiveParts := by
  refine ⟨fun s p l rest handed => ?_, fun s p src before after cycle asks first => ?_, fun g =>
    ⟨fun e v => rfl, fun n => rfl, fun v n =>
      ⟨Gather.all_of_complete, fun all => Gather.complete_of_all all.1 all.2⟩⟩,
    fun s p before after x g l parts gather latched cycle => ?_⟩
  · have command : commandOf l.code = some .readEngines := by simp [commandOf, handed.2]
    change execReadEngines p .ask s = _
    simp only [execReadEngines, handed.1, command, if_true]
    rfl
  · have takes : takeFirst (fun x => x.source = src) (s.wires.asks.get p) =
        some (⟨cycle, src⟩, before ++ after) := by
      rw [asks]
      exact takeFirst_append (by simpa using first) (by simp)
    refine ⟨s.partOf p src, ?_, fun pool => by rw [pool]; rfl, fun e engine =>
      ⟨s.engineView p e, by rw [engine]; rfl, engineView_linesHeld s p e, ?_⟩⟩
    · change execReadEnginesPart p src s = _
      rw [execReadEnginesPart, takes]
      rfl
    · unfold State.engineView
      cases (s.engine e).phase <;> exact ⟨rfl, rfl⟩
  · refine ⟨s.takePart p x, ?_, takePart_of_other_cycle gather, fun same incomplete => ?_,
      fun same v n complete => ?_⟩
    · change execReadEngines p (.part before.length) s = _
      simp only [execReadEngines, parts, takeAt_append]
      exact congrArg Host.Outcome.next (takePart_setWires _)
    · exact takePart_of_incomplete gather same incomplete
    · rw [takePart_answers gather same latched cycle complete]
      cases online : s.online p <;> rfl

end

section
/-! PROOFS. Run queues as records are written (R14, R30, R31, R144), and the request lines: triggers taken,
acknowledgements, returns and drops (R39–R44). -/

namespace Sys2Proof.Machine

variable {s : State} {ch : ChannelNo} {n : LineNo}

/-! ### Leaving the run queues -/

theorem TriggerUnit.queue_leave (t : TriggerUnit) (ch : ChannelNo) (k : SchedClass) :
    (t.leave ch).queue k = (t.queue k).filter (· ≠ ch) := by
  have same (q : List ChannelNo) : q.filter (· != ch) = q.filter (· ≠ ch) :=
    List.filter_congr fun x _ => by by_cases h : x = ch <;> simp [h]
  cases k <;> exact same _

/-! ### A line takes its trigger (R40) -/

theorem takeTrigger_of_taking {m : Mapping} (mapped : (s.line n).mapping = some m)
    (waiting : (s.line n).state = .waiting) (req : s.req.row n = true)
    (able : (s.channel m.channel).canTake = true) :
    s.takeTrigger n =
      (s.setLine n { s.line n with state := .pending }).writeChannel m.channel
        { s.channel m.channel with linePending := true } := by
  simp [State.takeTrigger, mapped, waiting, req, able]

theorem takeTrigger_of_not_taking
    (not : ∀ m, (s.line n).mapping = some m →
      ¬((s.line n).state = .waiting ∧ s.req.row n = true ∧ (s.channel m.channel).canTake = true)) :
    s.takeTrigger n = s := by
  unfold State.takeTrigger
  dsimp only
  split
  · rfl
  · next m mapped => exact if_neg (not m mapped)

theorem takeTrigger_of_silent (silent : s.req.row n = false) : s.takeTrigger n = s :=
  takeTrigger_of_not_taking fun _ _ takes => by
    rw [silent] at takes
    exact Bool.noConfusion takes.2.1

/-- Neither a line without a channel nor one that is not WAITING nor one whose channel cannot take a trigger
takes one, whatever its input. -/
theorem takeTrigger_of_unable
    (unable : (s.line n).mapping = none ∨ (s.line n).state ≠ .waiting ∨
      ∃ m : Mapping, (s.line n).mapping = some m ∧
        (s.channel m.channel).state ∉ [ChannelState.ready, .running, .posting]) :
    s.takeTrigger n = s := by
  refine takeTrigger_of_not_taking fun m mapped ⟨waiting, _, able⟩ => ?_
  obtain none | other | ⟨m', mapped', other⟩ := unable
  · rw [none] at mapped
    cases mapped
  · exact other waiting
  · obtain rfl : m = m' := Option.some.inj (mapped.symm.trans mapped')
    exact other ((Channel.canTake_iff _).1 able)

theorem channelAble_of_mapped (mapped : (s.channel ch).mappedLine = some n) :
    s.channelAble ch = s.takeTrigger n := by
  simp [State.channelAble, mapped]

theorem channelAble_of_unmapped (unmapped : (s.channel ch).mappedLine = none) : s.channelAble ch = s := by
  simp [State.channelAble, unmapped]

/-! ### Words to a SERVING line (R42, R44) -/

/-- The line serves a unit of the channel. -/
def State.Serving (s : State) (w : LineWord) : Prop :=
  (s.line w.line).state = .serving ∧ ∃ p, (s.line w.line).mapping = some ⟨w.channel, p⟩

theorem takeLineWord_append {before after : List LineWord} {w : LineWord} (first : ∀ x ∈ before, x.line ≠ w.line) :
    takeLineWord w.line (before ++ w :: after) = some (w, before ++ after) :=
  takeFirst_append (by simpa using first) (by simp)

theorem acknowledgeLine_of_serving {w : LineWord} (serving : s.Serving w) :
    s.acknowledgeLine w =
      s.setLine w.line
        { s.line w.line with
          state := if s.req.row w.line then .acking else .waiting
          acks := (s.line w.line).acks + 1 } := by
  obtain ⟨state, p, mapped⟩ := serving
  simp [State.acknowledgeLine, mapped, state]

theorem Serving.of_mapped {w : LineWord} {m : Mapping} (mapped : (s.line w.line).mapping = some m)
    (state : (s.line w.line).state = .serving) (names : m.channel = w.channel) : s.Serving w :=
  ⟨state, m.port, names ▸ mapped⟩

theorem acknowledgeLine_of_not_serving {w : LineWord} (other : ¬s.Serving w) : s.acknowledgeLine w = s := by
  unfold State.acknowledgeLine
  dsimp only
  split
  · next m mapped => exact if_neg fun ⟨state, names⟩ => other (Serving.of_mapped mapped state names)
  · rfl

theorem returnServing_of_serving {w : LineWord} (serving : s.Serving w) :
    s.returnServing w = (s.setLine w.line { s.line w.line with state := .waiting }).takeTrigger w.line := by
  obtain ⟨state, p, mapped⟩ := serving
  simp [State.returnServing, mapped, state]

theorem returnServing_of_not_serving {w : LineWord} (other : ¬s.Serving w) : s.returnServing w = s := by
  unfold State.returnServing
  dsimp only
  split
  · next m mapped => exact if_neg fun ⟨state, names⟩ => other (Serving.of_mapped mapped state names)
  · rfl

theorem exec_lineAcknowledge {before after : List LineWord} {w : LineWord}
    (acks : s.wires.acks = before ++ w :: after) (first : ∀ x ∈ before, x.line ≠ w.line) :
    exec (.lineAcknowledge w.line) s =
      .next ((s.setWires { s.wires with acks := before ++ after }).acknowledgeLine w) := by
  change execLineAcknowledge w.line s = _
  rw [execLineAcknowledge, acks, takeLineWord_append first]

theorem exec_lineReturn {before after : List LineWord} {w : LineWord}
    (returns : s.wires.returns = before ++ w :: after) (first : ∀ x ∈ before, x.line ≠ w.line) :
    exec (.lineReturn w.line) s =
      .next ((s.setWires { s.wires with returns := before ++ after }).returnServing w) := by
  change execLineReturn w.line s = _
  rw [execLineReturn, returns, takeLineWord_append first]

/-- The input of a line is deasserted (R39, R43). -/
theorem exec_reqDeasserted (s : State) (n : LineNo) :
    exec (.reqDeasserted n) s =
      .next
        (if (s.line n).state = .acking then
          (s.setReq n false).setLine n { s.line n with state := .waiting }
        else s.setReq n false) := by
  change execReqDeasserted n s = _
  have line : (s.setReq n false).line n = s.line n := rfl
  simp only [execReqDeasserted, line]
  split <;> rfl

end Sys2Proof.Machine

open Sys2Proof Sys2Proof.Machine

/-- Settles O21: the three ways a write meets the queues, and the join after parking. -/
theorem eligibilityMovesRunQueues : Obligations.EligibilityMovesRunQueues := by
  refine ⟨fun s ch c sound => ⟨writeChannel_channels s ch c, fun same => ?_, fun was becomes d loaded k => ?_,
    fun was loses k => ?_⟩, fun s ch d eligible loaded out => ?_⟩
  · rw [writeChannel_of_eligible_eq s same]
    rfl
  · rw [writeChannel_of_becomes_eligible s was becomes loaded,
      TriggerUnit.join_of_not_queued fun k => sound.2.1.not_queued was k]
    refine (TriggerUnit.queue_setQueue ..).trans ?_
    split
    · next same => rw [same]
    · rfl
  · rw [writeChannel_of_loses_eligible s was loses]
    exact TriggerUnit.queue_leave _ _ _
  · change execRunQueueJoin ch s = _
    simp only [execRunQueueJoin, eligible, if_true, State.joinQueue, loaded,
      TriggerUnit.join_of_not_queued out]
    rfl

/-- Settles O26: an assertion, the word and the shared operations take the same trigger. -/
theorem waitingLineTakesTrigger : Obligations.WaitingLineTakesTrigger := by
  refine ⟨fun s n => ⟨fun m mapped waiting state => ?_, fun unable => ⟨?_, ?_⟩, fun silent => ?_⟩,
    fun s ch => ⟨fun n mapped => channelAble_of_mapped mapped, channelAble_of_unmapped⟩⟩
  · have able := (Channel.canTake_iff _).2 state
    refine ⟨congrArg Host.Outcome.next
      (takeTrigger_of_taking (s := s.setReq n true) mapped waiting (Table.row_put_self _ _ _) able), fun req => ?_⟩
    have takes := takeTrigger_of_taking mapped waiting req able
    exact ⟨congrArg Host.Outcome.next takes, takes⟩
  · exact congrArg Host.Outcome.next (takeTrigger_of_unable (s := s.setReq n true) unable)
  · exact ⟨congrArg Host.Outcome.next (takeTrigger_of_unable unable), takeTrigger_of_unable unable⟩
  · exact ⟨congrArg Host.Outcome.next (takeTrigger_of_silent silent), takeTrigger_of_silent silent⟩

/-- Settles O27: the acknowledgement of a SERVING line, and the end of ACKING. -/
theorem acknowledgeHandshake : Obligations.AcknowledgeHandshake := by
  refine ⟨fun s n ch before after acks first => ⟨fun state mapped => ⟨?_, ?_⟩, fun other => ?_⟩, fun s n => ?_⟩
  · rw [exec_lineAcknowledge acks first]
    exact congrArg Host.Outcome.next (acknowledgeLine_of_serving (w := ⟨n, ch⟩) ⟨state, mapped⟩)
  · cases req : s.req.row n <;> simp [ackLevel]
  · rw [exec_lineAcknowledge acks first]
    exact congrArg Host.Outcome.next (acknowledgeLine_of_not_serving (w := ⟨n, ch⟩) other)
  · rw [exec_reqDeasserted]
    rfl

/-- Settles O28: the return of a SERVING line and the drop at a PENDING one. -/
theorem lineReturnsWithoutAcknowledge : Obligations.LineReturnsWithoutAcknowledge := by
  refine ⟨fun s n ch before after returns first => ⟨fun state mapped => ?_, fun other => ?_⟩,
    fun s n m mapped => ⟨fun pending dropped => ?_, fun other => ?_⟩⟩
  · rw [exec_lineReturn returns first]
    exact congrArg Host.Outcome.next (returnServing_of_serving (w := ⟨n, ch⟩) ⟨state, mapped⟩)
  · rw [exec_lineReturn returns first]
    exact congrArg Host.Outcome.next (returnServing_of_not_serving (w := ⟨n, ch⟩) other)
  · change execLinePendingDrop n s = _
    simp only [execLinePendingDrop, mapped, pending, dropped, and_self, if_true]
    rfl
  · change execLinePendingDrop n s = _
    simp only [execLinePendingDrop, mapped, if_neg other]

end

section
/-! PROOFS. The dispatch of a channel to an engine with the whole next state (R15, R32, R35, R51, R76). -/

namespace Sys2Proof.Machine

variable {s : State} {ch : ChannelNo}

/-- In an ascending list the lowest element that qualifies is found. -/
theorem find?_eq_lowest {α : Type} [LinearOrder α] {f : α → Bool} {xs : List α} {y : α}
    (sorted : xs.Pairwise (· < ·)) (mem : y ∈ xs) (this : f y = true) (lower : ∀ x < y, f x = false) :
    xs.find? f = some y := by
  induction xs with
  | nil => cases mem
  | cons x xs ih =>
    obtain ⟨first, rest⟩ := List.pairwise_cons.1 sorted
    obtain rfl | mem := List.mem_cons.1 mem
    · exact List.find?_cons_of_pos this
    · rw [List.find?_cons_of_neg (by simp [lower x (first y mem)])]
      exact ih rest mem

theorem finRange_find?_eq_lowest {n : Nat} {f : Fin n → Bool} {y : Fin n} (this : f y = true)
    (lower : ∀ x < y, f x = false) : (List.finRange n).find? f = some y :=
  find?_eq_lowest (List.pairwise_lt_finRange n) (List.mem_finRange y) this lower

theorem idleEngine_eq_lowest {e : EngineNo} (idle : (s.engine e).phase = .idle)
    (lower : ∀ f, f < e → (s.engine f).phase ≠ .idle) : s.idleEngine = some e := by
  refine finRange_find?_eq_lowest (by simp [idle]) fun f less => ?_
  have busy := lower f less
  split
  · next phase => exact absurd phase busy
  · rfl

/-- The record at dispatch, field by field (R15, R35). -/
theorem Channel.dispatched_eq (c : Channel) :
    c.dispatched =
      { c with
        state := .running, linePending := false
        origin := some (if c.linePending then .line else .credit)
        servedLine := if c.linePending then c.mappedLine else none
        credit := if c.linePending then c.credit else c.credit - 1 } := by
  unfold Channel.dispatched
  cases pending : c.linePending <;> simp

/-- The lines at dispatch: a pending trigger's line serves the unit. -/
def State.servedLines (s : State) (c : Channel) : Table Line 16 :=
  match c.linePending, c.mappedLine with
  | true, some n => s.lines.put n { s.line n with state := .serving }
  | _, _ => s.lines

theorem serveLine_eq (c : Channel) : s.serveLine c = { s with lines := s.servedLines c } := by
  unfold State.serveLine State.servedLines
  cases c.linePending with
  | false => rfl
  | true => cases c.mappedLine <;> rfl

theorem filter_other_causes (causes : List CauseWord) :
    (causes.filter fun x => x.channel != ch) = causes.filter fun x => x.channel ≠ ch :=
  List.filter_congr fun x _ => by by_cases h : x.channel = ch <;> simp [h]

/-- The dispatch of the head channel with the whole next state. -/
theorem dispatchHead_eq {p : Port} {d : Loaded} (e : EngineNo) (k : SchedClass) (rest : List ChannelNo)
    (owner : (s.channel ch).owner = some p) (loaded : (s.channel ch).loaded = some d) :
    s.dispatchHead e k ch rest =
      (({ s with
          channels := s.channels.put ch (s.channel ch).dispatched
          trigger := (s.trigger.setQueue k rest).countSkips k
          lines := s.servedLines (s.channel ch)
          pool :=
            { s.pool with
              engines :=
                s.pool.engines.put e
                  { s.poolEngine e with limit := some d.program.readAhead.limit, request := .none } }
          wires := { s.wires with causes := s.wires.causes.filter fun x => x.channel ≠ ch } } :
        State).setEngine e
        { Engine.idle with
          phase := .running (workOf ch p d (if (s.channel ch).linePending then .line else .credit)) }).channelAble
        ch := by
  have origin : (s.channel ch).dispatched.origin.getD .credit =
      if (s.channel ch).linePending then .line else .credit := by
    rw [Channel.dispatched_eq]
    rfl
  simp only [State.dispatchHead, owner, loaded, origin, serveLine_eq]
  rw [← filter_other_causes]
  rfl

end Sys2Proof.Machine

open Sys2Proof Sys2Proof.Machine

/-- Settles O29: the lowest-numbered IDLE engine takes the head with the record and the unit. -/
theorem dispatchStartsUnit : Obligations.DispatchStartsUnit := by
  intro s e k ch rest p d idle lower chosen queue owner loaded
  have engine := idleEngine_eq_lowest idle lower
  rw [exec_dispatch engine chosen queue, dispatchHead_eq e k rest owner loaded, Channel.dispatched_eq]
  rfl

end

section
/-! PROOFS. The Domain Bus Masters and admission: offers taken, requests decided, answers, responses,
expiries, CLEAR_BUS and abandonment (Chapters 5 and 6). -/

namespace Sys2Proof.Machine

variable {s : State} {d : Domain}

/-! ### Taking an offer (R109) -/

theorem roundRobin_eq (last : EngineNo) : roundRobin last = (List.finRange 4).map fun j => last + 1 + j := by
  fin_cases last <;> rfl

/-- In an ascending list the lowest element with a value gives it. -/
theorem findSome?_eq_lowest {α β : Type} [LinearOrder α] {f : α → Option β} {xs : List α} {y : α} {b : β}
    (sorted : xs.Pairwise (· < ·)) (mem : y ∈ xs) (this : f y = some b) (lower : ∀ x < y, f x = none) :
    xs.findSome? f = some b := by
  induction xs with
  | nil => cases mem
  | cons x xs ih =>
    obtain ⟨first, rest⟩ := List.pairwise_cons.1 sorted
    obtain rfl | mem := List.mem_cons.1 mem
    · rw [List.findSome?_cons, this]
    · rw [List.findSome?_cons, lower x (first y mem)]
      exact ih rest mem

theorem nextOffer_eq {j : EngineNo} {t : Txn}
    (earlier : ∀ i, i < j → (s.engine ((s.master d).lastServed + 1 + i)).offers.get d = none)
    (this : (s.engine ((s.master d).lastServed + 1 + j)).offers.get d = some t) :
    s.nextOffer d = some ((s.master d).lastServed + 1 + j, t) := by
  rw [State.nextOffer, roundRobin_eq, List.findSome?_map]
  refine findSome?_eq_lowest (List.pairwise_lt_finRange 4) (List.mem_finRange j) ?_ fun i less => ?_
  · simp [this]
  · simp [earlier i less]

theorem nextOffer_eq_none (silent : ∀ e, (s.engine e).offers.get d = none) : s.nextOffer d = none := by
  rw [State.nextOffer, List.findSome?_eq_none_iff]
  exact fun e _ => by simp [silent e]

theorem BusMaster.readyToTake_iff {m : BusMaster} :
    m.readyToTake = true ↔ m.state = .open ∧ m.list.length < 16 ∧ m.admission = none := by
  change _ ↔ m.state = .open ∧ m.list.length < Config.busPlaces ∧ m.admission = none
  simp [readyToTake, and_assoc]

theorem Engine.owner_of_running {g : Engine} {w : Work} (running : g.phase = .running w) : g.owner = w.owner := by
  simp [owner, running]

theorem exec_takeOffer_of_offer {e : EngineNo} {t : Txn} (ready : (s.master d).readyToTake = true)
    (next : s.nextOffer d = some (e, t)) : exec (.takeOffer d) s = .next (s.take d e t) := by
  change execTakeOffer d s = _
  simp only [execTakeOffer, ready, next, if_true]

theorem exec_takeOffer_of_none (nothing : (s.master d).readyToTake = false ∨ s.nextOffer d = none) :
    exec (.takeOffer d) s = .next s := by
  change execTakeOffer d s = _
  obtain busy | none := nothing
  · simp [execTakeOffer, busy]
  · simp [execTakeOffer, none]

/-! ### The decision on a request (R89, R97, R98) -/

theorem Rights.include_iff {r : Rights} {dir : Direction} :
    r.include dir = true ↔ r = .readWrite ∨ (r = .read ∧ dir = .read) ∨ (r = .write ∧ dir = .write) := by
  cases r <;> cases dir <;> decide

theorem Grantees.include_iff {g : Grantees} {p : Port} :
    g.include d p = true ↔ g = .both ∨ (g = .self ∧ p = d) ∨ (g = .peer ∧ p ≠ d) := by
  cases g <;> cases d <;> cases p <;> decide

theorem Aperture.qualifies_iff {x : Aperture} {dir : Direction} {address : Word} {length : Nat} {p : Port} :
    x.qualifies d dir address length p = true ↔
      ∃ g, x.grant = some g ∧ g.base.toNat ≤ address.toNat ∧
        address.toNat + length ≤ g.base.toNat + g.pages * 4096 ∧
        (g.rights = .readWrite ∨ (g.rights = .read ∧ dir = .read) ∨ (g.rights = .write ∧ dir = .write)) ∧
        (g.grantees = .both ∨ (g.grantees = .self ∧ p = d) ∨ (g.grantees = .peer ∧ p ≠ d)) := by
  unfold qualifies
  cases x.grant with
  | none => simp
  | some g =>
    simp only [Grant.covers, Bool.and_eq_true, decide_eq_true_iff, Rights.include_iff,
      Grantees.include_iff, Option.some.injEq, exists_eq_left', and_assoc]
    exact Iff.rfl

/-- The aperture is in the state and its fields qualify (R89, R97). -/
def State.Qualifies (s : State) (d : Domain) (dir : Direction) (address : Word) (length : Nat) (p : Port)
    (st : ApertureState) (i : ApertureNo) : Prop :=
  (s.aperture d i).state = st ∧ (s.aperture d i).qualifies d dir address length p = true

section
variable {dir : Direction} {address : Word} {length : Nat} {p : Port} {st : ApertureState} {i : ApertureNo}

theorem qualifying_eq_lowest (this : s.Qualifies d dir address length p st i)
    (lower : ∀ j < i, ¬s.Qualifies d dir address length p st j) :
    s.qualifying d st dir address length p = some i := by
  obtain ⟨state, fields⟩ := this
  refine finRange_find?_eq_lowest (by simp [state, fields]) fun j less => Bool.eq_false_iff.2 fun found => ?_
  rw [Bool.and_eq_true, decide_eq_true_iff] at found
  exact lower j less found

theorem qualifying_eq_none (unmet : ∀ i, ¬s.Qualifies d dir address length p st i) :
    s.qualifying d st dir address length p = none := by
  refine List.find?_eq_none.2 fun j _ found => ?_
  rw [Bool.and_eq_true, decide_eq_true_iff] at found
  exact unmet j found

theorem qualifying_of_exists (some_ : ∃ i, s.Qualifies d dir address length p st i) :
    ∃ i, s.qualifying d st dir address length p = some i := by
  obtain ⟨i, state, fields⟩ := some_
  rw [← Option.isSome_iff_exists, State.qualifying, List.find?_isSome]
  exact ⟨i, List.mem_finRange i, by simp [state, fields]⟩

end

theorem exec_admissionRequest {dir : Direction} {address : Word} {length : Nat} {p : Port}
    {rest : List ApertureWord} (oldest : s.wires.aperture.get d = .request dir address length p :: rest) :
    exec (.admissionRequest d) s =
      .next
        (match s.decide d dir address length p with
        | .admitted i =>
          ((s.setApertureWords d rest).addUser d i).setAdmissionReply d (some (.admitted i))
        | .refused k => (s.setApertureWords d rest).setAdmissionReply d (some (.refused k))) := by
  have same : (s.setApertureWords d rest).decide d dir address length p = s.decide d dir address length p := rfl
  change execAdmissionRequest d s = _
  simp only [execAdmissionRequest, oldest, same]
  cases s.decide d dir address length p <;> rfl

/-! ### Answers to admissions (R110, R56) -/

/-- The line held for a unit line is the first listed for it. -/
theorem PoolEngine.lineOf_of_first {x : PoolEngine} {q : Nat} {n : StagingLine} {before after : List HeldLine}
    (held : x.held = before ++ ⟨q, n⟩ :: after) (first : ∀ h ∈ before, h.unitLine ≠ q) :
    x.lineOf q = some n := by
  have found : x.held.find? (fun h => h.unitLine = q) = some ⟨q, n⟩ := by
    rw [held, List.find?_append, List.find?_eq_none.2 (by simpa using first)]
    simp
  simp [lineOf, found]

theorem length_writeBytes (e : EngineNo) (w : Work) (t : Txn) : (s.writeBytes e w t).length = t.length := by
  simp [State.writeBytes]

/-- The byte of a write at its staging place (R56, R77). -/
theorem writeBytes_getElem? {e : EngineNo} {w : Work} {t : Txn} {j : Nat} (covered : j < t.length)
    {n : StagingLine} {x : Fin 32} (line : (s.poolEngine e).lineOf (w.place (w.firstByte t + j) / 32) = some n)
    (at_ : x.val = w.place (w.firstByte t + j) % 32) :
    (s.writeBytes e w t)[j]? = some ((s.pool.data.row n).row x) := by
  obtain rfl : x = ⟨w.place (w.firstByte t + j) % 32, Nat.mod_lt _ (by decide)⟩ := Fin.ext at_
  simp [State.writeBytes, covered, State.stagedByte, line]

theorem Stepping.spanned_iff {x : Stepping} :
    x.spanned = true ↔ x = .increment ∨ x = .incrementRewind := by
  cases x <;> decide

theorem Work.place_eq (w : Work) (u : Nat) :
    w.place u =
      (if w.src.step = .increment ∨ w.src.step = .incrementRewind then w.src.start.toNat % 32 else 0) + u := by
  rw [place, Side.offset]
  congr 1
  exact if_congr Stepping.spanned_iff rfl rfl

section
variable {a : Admission} {r : AdmissionReply} (reply : s.wires.admissions.get d = some r)
  (admission : (s.master d).admission = some a)
include reply admission

theorem exec_admissionAnswer_refused {k : AdmissionKind} (refused : r = .refused k)
    (plain : (s.master d).state = .open ∧ a.marked = false) :
    exec (.admissionAnswer d) s =
      .next (((s.setAdmissionReply d none).setMaster d { s.master d with admission := none }).setOfferBack d
        a.engine (some (.refused k))) := by
  change execAdmissionAnswer d s = _
  simp only [execAdmissionAnswer, reply, admission, if_pos plain, refused]

theorem exec_admissionAnswer_issued {i : ApertureNo} (admitted : r = .admitted i)
    (plain : (s.master d).state = .open ∧ a.marked = false) :
    exec (.admissionAnswer d) s = .next ((s.setAdmissionReply d none).issue d a i) := by
  change execAdmissionAnswer d s = _
  simp only [execAdmissionAnswer, reply, admission, if_pos plain, admitted]

theorem exec_admissionAnswer_returned {k : AdmissionKind} (refused : r = .refused k)
    (barred : ¬((s.master d).state = .open ∧ a.marked = false)) :
    exec (.admissionAnswer d) s =
      .next (((s.setAdmissionReply d none).setMaster d { s.master d with admission := none }).setOfferBack d
        a.engine (some .returned)) := by
  change execAdmissionAnswer d s = _
  simp only [execAdmissionAnswer, reply, admission, if_neg barred, refused]

theorem exec_admissionAnswer_released {i : ApertureNo} (admitted : r = .admitted i)
    (barred : ¬((s.master d).state = .open ∧ a.marked = false)) :
    exec (.admissionAnswer d) s =
      .next ((((s.setAdmissionReply d none).setMaster d { s.master d with admission := none }).sendAperture d
        (.userEnd i)).setOfferBack d a.engine (some .returned)) := by
  change execAdmissionAnswer d s = _
  simp only [execAdmissionAnswer, reply, admission, if_neg barred, admitted]

end

/-- The byte of a write, found at the staging place of the unit byte (R56, R77). -/
theorem writeBytes_at_place {e : EngineNo} {w : Work} {t : Txn} {j place : Nat} (covered : j < t.length)
    (is : w.place (w.firstByte t + j) = place) {n : StagingLine} {x : Fin 32} {before after : List HeldLine}
    (held : (s.poolEngine e).held = before ++ ⟨place / 32, n⟩ :: after)
    (first : ∀ h ∈ before, h.unitLine ≠ place / 32) (at_ : x.val = place % 32) :
    (s.writeBytes e w t)[j]? = some ((s.pool.data.row n).row x) := by
  subst is
  exact writeBytes_getElem? covered (PoolEngine.lineOf_of_first held first) at_

theorem busBytes_of_running {e : EngineNo} {t : Txn} {w : Work} (write : t.dir = .write)
    (running : (s.engine e).phase = .running w) : s.busBytes e t = s.writeBytes e w t := by
  simp [State.busBytes, write, running]

theorem busBytes_of_stopping {e : EngineNo} {t : Txn} {w : Work} {c : StopCause} (write : t.dir = .write)
    (stopping : (s.engine e).phase = .stopping w c) : s.busBytes e t = s.writeBytes e w t := by
  simp [State.busBytes, write, stopping]

theorem busBytes_of_read {e : EngineNo} {t : Txn} (read : t.dir = .read) : s.busBytes e t = [] := by
  unfold State.busBytes
  rw [read]

/-! ### Failures, one for each engine (R113, R118) -/

section
variable {es : List BusEntry} {kind : EngineNo → FailureKind} {e : EngineNo} {w : EngineWord}

theorem entriesOf_eq_nil_iff : entriesOf e es = [] ↔ (es.any fun y => y.engine = e) = false := by
  simp [entriesOf]

theorem failureWord_eq :
    failureWord es kind e =
      if (es.any fun y => y.engine = e) = true then some ⟨e, .failure (kind e) (entriesOf e es)⟩ else none := by
  unfold failureWord
  split
  · next nothing =>
    rw [if_neg (by simp [entriesOf_eq_nil_iff.1 nothing])]
  · next something =>
    rw [if_pos (Bool.not_eq_false _ ▸ mt entriesOf_eq_nil_iff.2 something)]

theorem failureWords_engines :
    (failureWords es kind).map (fun w => w.engine) =
      (List.finRange 4).filter fun e => es.any fun y => y.engine = e := by
  rw [failureWords]
  induction List.finRange 4 with
  | nil => rfl
  | cons e rest ih =>
    cases any : es.any fun y => y.engine = e <;> simp_all [failureWord_eq]

theorem failureWords_body (mem : w ∈ failureWords es kind) :
    w.body = .failure (kind w.engine) (entriesOf w.engine es) := by
  obtain ⟨e, -, sent⟩ := List.mem_filterMap.1 mem
  rw [failureWord_eq] at sent
  split at sent <;> cases sent
  rfl

end

/-! ### CLEAR_BUS (R116) -/

section
variable {p : Port} {l : Latched} {rest : List Latched} {r : Reply} {t : State} {a : Table Word 8}

theorem exec_clearBus (handed : s.handedOver p 0x39 l rest)
    (acts : clearBusAct p l.args (s.setHanded p rest) = (r, t)) :
    exec (.clearBus p) s = .next (t.sendAnswer p ⟨l.cycle, r⟩) :=
  owner_acts (c := .clearBus) handed.1 (by simp [commandOf, handed.2]) (by decide) acts

theorem clearBusAct_of_offline (offline : s.online p = false) :
    clearBusAct p a s = (.plain .notOnline, s) := by
  simp [clearBusAct, offline]

theorem clearBusAct_of_open (online : s.online p = true) (open_ : (s.master p).state = .open) :
    clearBusAct p a s = (.withRes1 .ok 0, s) := by
  simp [clearBusAct, online, open_]

theorem clearBusAct_of_recovering (online : s.online p = true) (recovering : (s.master p).state = .recovering) :
    clearBusAct p a s =
      (.withRes1 .ok (s.master p).list.length,
        (s.endEntries p (s.master p).list).setMaster p (s.master p).emptied) := by
  simp [clearBusAct, online, recovering]

end

/-! ### Responses (R108, R115, R117) -/

theorem length_shapeData (n : Nat) (data : List Byte) (count : Nat) : (shapeData n data count).length = n := by
  simp only [shapeData, List.length_append, List.length_take, List.length_map, List.length_range]
  omega

theorem shapeData_getElem? {n i : Nat} {data : List Byte} {count : Nat} (covered : i < n)
    (carried : i < data.length) : (shapeData n data count)[i]? = data[i]? := by
  rw [shapeData, List.getElem?_append_left (by simp; omega), List.getElem?_take_of_lt covered]

section
variable {t : Txn} {data : List Byte}

theorem shapeReply_write (write : t.dir = .write) (n : Nat) : shapeReply t (.okay data) n = .okay t [] := by
  simp [shapeReply, write]

theorem shapeReply_read (read : t.dir = .read) (n : Nat) :
    shapeReply t (.okay data) n = .okay t (shapeData t.length data n) := by
  simp [shapeReply, read]

theorem freeDrawn_write (write : t.dir = .write) : freeDrawn t (.okay data) = 0 := by
  simp [freeDrawn, write]

theorem freeDrawn_read (read : t.dir = .read) : freeDrawn t (.okay data) = t.length - data.length := by
  simp [freeDrawn, read]

end

theorem exec_busResponse_outstanding {r : BusReply} {x : BusEntry} {rest : List BusEntry}
    (list : (s.master d).list = x :: rest) (status : x.status = .outstanding) :
    exec (.busResponse d r) s =
      .next
        ((((s.sendAperture d (.userEnd x.aperture)).setMaster d { s.master d with list := rest }).sendEngineWord
          d ⟨x.engine, shapeReply x.txn r s.freeCount⟩).drawFree (freeDrawn x.txn r)) := by
  change execBusResponse d r s = _
  simp only [execBusResponse, list, status]

theorem exec_busResponse_stale {r : BusReply} {x : BusEntry} {rest : List BusEntry}
    (list : (s.master d).list = x :: rest) (status : x.status = .stale) :
    exec (.busResponse d r) s =
      .next
        ((s.sendAperture d (.userEnd x.aperture)).setMaster d
          { s.master d with
            list := rest
            stale := (s.master d).stale - 1
            state := if (s.master d).stale - 1 = 0 then .open else (s.master d).state }) := by
  change execBusResponse d r s = _
  simp only [execBusResponse, list, status]

end Sys2Proof.Machine

open Sys2Proof Sys2Proof.Machine

/-- Settles O31: the first offer in round-robin order, or nothing. -/
theorem offersAreTakenRoundRobin : Obligations.OffersAreTakenRoundRobin := by
  intro s d
  refine ⟨fun j t p open_ room idle => ?_, fun nothing => exec_takeOffer_of_none ?_⟩
  · intro e earlier offer ⟨w, running, owner⟩
    rw [exec_takeOffer_of_offer (BusMaster.readyToTake_iff.2 ⟨open_, room, idle⟩) (nextOffer_eq earlier offer),
      State.take, Engine.owner_of_running running, owner]
    rfl
  · obtain other | full | busy | none := nothing
    · exact .inl (Bool.eq_false_iff.2 fun ready => other (BusMaster.readyToTake_iff.1 ready).1)
    · refine .inl (Bool.eq_false_iff.2 fun ready => ?_)
      have := (BusMaster.readyToTake_iff.1 ready).2.1
      omega
    · refine .inl (Bool.eq_false_iff.2 fun ready => ?_)
      rw [(BusMaster.readyToTake_iff.1 ready).2.2] at busy
      cases busy
    · exact .inr (nextOffer_eq_none none)

/-- Settles O32: the lowest OPEN aperture, else a DRAINING one, else none. -/
theorem admissionLooksForAnAperture : Obligations.AdmissionLooksForAnAperture := by
  intro s d dir address length p rest oldest
  have iff (st : ApertureState) (i : ApertureNo) :=
    and_congr_right_iff (a := (s.aperture d i).state = st) |>.2 fun _ =>
      (Aperture.qualifies_iff (x := s.aperture d i) (d := d) (dir := dir) (address := address)
        (length := length) (p := p))
  refine ⟨fun i this lower => ?_, fun no_open draining => ?_, fun no_open no_draining => ?_⟩
  · have found := qualifying_eq_lowest ((iff .open i).2 this) fun j less h => lower j less ((iff .open j).1 h)
    rw [exec_admissionRequest oldest, State.decide, found]
    rfl
  · have none := qualifying_eq_none fun i h => no_open i ((iff .open i).1 h)
    obtain ⟨i, found⟩ := qualifying_of_exists (draining.imp fun i h => (iff .draining i).2 h)
    rw [exec_admissionRequest oldest, State.decide, none, found]
    rfl
  · have none := qualifying_eq_none fun i h => no_open i ((iff .open i).1 h)
    have none' := qualifying_eq_none fun i h => no_draining i ((iff .draining i).1 h)
    rw [exec_admissionRequest oldest, State.decide, none, none']
    rfl

/-- Settles O33: issued, referred back, or released. -/
theorem admissionAnswerIssuesOrReturns : Obligations.AdmissionAnswerIssuesOrReturns := by
  intro s d a r reply admission
  refine ⟨fun plain => ⟨fun k refused => exec_admissionAnswer_refused reply admission refused plain,
    fun i admitted => ?_⟩, fun barred =>
    ⟨fun k refused => exec_admissionAnswer_returned reply admission refused barred,
      fun i admitted => exec_admissionAnswer_released reply admission admitted barred⟩⟩
  have issues := exec_admissionAnswer_issued reply admission admitted plain
  have issued (g : Engine) : (s.engine a.engine).issued d a.txn = g →
      exec (.admissionAnswer d) s =
        .next
          (({ s with
              wires := { s.wires with admissions := s.wires.admissions.set d none }
              masters :=
                s.masters.set d
                  { s.master d with
                    admission := none
                    list :=
                      (s.master d).list ++
                        [{ status := .outstanding, engine := a.engine, txn := a.txn, aperture := i
                           deadline := s.deadline d, bytes := s.busBytes a.engine a.txn }] } } :
            State).setEngine a.engine g) := fun is => by
    rw [issues, ← is]
    rfl
  refine ⟨fun w running => ⟨s.busBytes a.engine a.txn, ⟨busBytes_of_read, fun write => ?_⟩, ?_⟩,
    fun w c stopping => ⟨s.busBytes a.engine a.txn, ⟨busBytes_of_read, fun write => ?_⟩, ?_⟩⟩
  · rw [busBytes_of_running write running]
    exact ⟨length_writeBytes _ _ _, fun j covered n x before after held first at_ =>
      writeBytes_at_place covered (w.place_eq _) held first at_⟩
  · refine issued _ ?_
    simp only [Engine.issued, running]
    rfl
  · rw [busBytes_of_stopping write stopping]
    exact ⟨length_writeBytes _ _ _, fun j covered n x before after held first at_ =>
      writeBytes_at_place covered (w.place_eq _) held first at_⟩
  · refine issued _ ?_
    simp only [Engine.issued, stopping]
    rfl

/-- Settles O34: the oldest entry by its status. -/
theorem responseAnswersOldestEntry : Obligations.ResponseAnswersOldestEntry := by
  intro s d r
  refine ⟨fun empty => ?_, fun x rest list => ⟨fun outstanding => ?_, fun stale =>
    exec_busResponse_stale list stale⟩⟩
  · change execBusResponse d r s = _
    simp only [execBusResponse, show (s.master d).list = [] from empty]
  · refine ⟨shapeReply x.txn r s.freeCount, s.freeCount + freeDrawn x.txn r,
      exec_busResponse_outstanding list outstanding, fun error => ?_, fun data okay write => ?_,
      fun data okay read => ?_⟩
    · rw [error]
      exact ⟨rfl, rfl⟩
    · rw [okay, shapeReply_write write, freeDrawn_write write]
      exact ⟨rfl, rfl⟩
    · rw [okay, shapeReply_read read, freeDrawn_read read]
      exact ⟨rfl, _, rfl, length_shapeData _ _ _, fun i covered carried => shapeData_getElem? covered carried⟩

/-- Settles O35: the whole list goes STALE and each engine hears of it once. -/
theorem expiryFailsTheWholeList : Obligations.ExpiryFailsTheWholeList := by
  intro s d n x entry
  refine ⟨fun not_due => ?_, fun due outstanding deadline => ?_⟩
  · change execResponseLimitExpiry d n s = _
    simp only [execResponseLimitExpiry, entry]
    split
    · next o dl => 
      obtain st | un := not_due
      · simp_all
      · simp_all
    · rfl
  · refine ⟨failureWords (s.master d).list fun e =>
      if e = x.engine then .timeoutOwn x.txn else .timeoutCollateral, ?_, failureWords_engines,
      fun w mem => failureWords_body mem⟩
    change execResponseLimitExpiry d n s = _
    simp only [execResponseLimitExpiry, entry, outstanding, deadline, expireBus_eq]
    rfl

/-- Settles O36: CLEAR_BUS by the master's state, and the abandonment. -/
theorem clearedAndAbandonedBuses : Obligations.ClearedAndAbandonedBuses := by
  refine ⟨fun s p l rest handed => ⟨fun offline => ?_, fun online open_ => ?_, fun online recovering => ?_⟩,
    fun s d n abandon => ⟨failureWords (outstandingOf (s.master d).list) fun _ => .domainReset, ?_,
      failureWords_engines, fun w mem => failureWords_body mem⟩⟩
  · exact exec_clearBus handed (clearBusAct_of_offline offline)
  · exact exec_clearBus handed (clearBusAct_of_open online open_)
  · rw [exec_clearBus handed (clearBusAct_of_recovering online recovering), endEntries_eq,
      Reply.withRes1, place_zero]
    rfl
  · change execBusAbandon d s = _
    simp only [execBusAbandon, abandon, abandon_eq]
    rfl

end

section
/-! PROOFS. The division of a unit into transactions (R52, R53). -/

namespace Sys2Proof.Machine

variable {x : Side} {dir : Direction} {size : ElementSize} {b n j : Nat}

theorem ElementSize.bytes_mem (size : ElementSize) :
    size.bytes = 1 ∨ size.bytes = 2 ∨ size.bytes = 4 ∨ size.bytes = 8 := by
  cases size <;> decide

/-- One past the last element of a transaction. -/
def Txn.past (t : Txn) : Nat := t.first + t.elems

/-! ### Sides that carry one element in each transaction -/

section
variable (single : x.step.spanned = false)
include single

theorem txnCount_of_single : x.txnCount b n = n := by
  simp [Side.txnCount, single]

theorem txn_of_single :
    (x.txn dir b n j).first = j ∧ (x.txn dir b n j).elems = 1 ∧ (x.txn dir b n j).length = b ∧
      (x.txn dir b n j).address = x.elementAddress b j := by
  simp [Side.txn, Side.firstElement, Side.endElement, single]

end

/-! ### Sides whose transactions fill spans -/

section
variable (spanned : x.step.spanned = true)
include spanned

theorem offset_of_spanned : x.offset = x.start.toNat % 32 := if_pos spanned

theorem txnCount_of_spanned : x.txnCount b n = (x.offset + n * b + 31) / 32 := if_pos spanned

theorem first_of_spanned : (x.txn dir b n j).first = (32 * j - x.offset) / b := if_pos spanned

theorem elems_of_spanned :
    (x.txn dir b n j).elems =
      min n ((32 * (j + 1) - x.offset) / b) - (32 * j - x.offset) / b := by
  simp [Side.txn, Side.firstElement, Side.endElement, spanned]

/-- The span arithmetic of one transaction: it begins at the start of its span, or of the unit, holds an
element, ends within its span, and unless it is the last ends where the next begins. -/
theorem txn_in_span (bytes : b = 1 ∨ b = 2 ∨ b = 4 ∨ b = 8) (aligned : x.start.toNat % b = 0) (some_ : 1 ≤ n)
    (within : j < x.txnCount b n) :
    (x.txn dir b n j).first < (x.txn dir b n j).past ∧ (x.txn dir b n j).past ≤ n ∧
      (x.txn dir b n j).first * b = 32 * j - x.offset ∧
      (x.txn dir b n j).past * b ≤ 32 * (j + 1) - x.offset ∧
      (j + 1 < x.txnCount b n → (x.txn dir b n (j + 1)).first = (x.txn dir b n j).past) ∧
      (j + 1 = x.txnCount b n → (x.txn dir b n j).past = n) := by
  have offset := offset_of_spanned spanned
  rw [txnCount_of_spanned spanned] at within ⊢
  rw [Txn.past, first_of_spanned spanned, first_of_spanned spanned, elems_of_spanned spanned]
  obtain rfl | rfl | rfl | rfl := bytes <;> omega

end

/-! ### Addresses -/

theorem toNat_add_ofNat {w : Word} {k : Nat} (fits : w.toNat + k < 2 ^ 32) :
    (w + BitVec.ofNat 32 k).toNat = w.toNat + k := by
  rw [BitVec.toNat_add, BitVec.toNat_ofNat, Nat.mod_eq_of_lt (a := k) (by omega), Nat.mod_eq_of_lt fits]

theorem toNat_sub_ofNat {w : Word} {k : Nat} (fits : k ≤ w.toNat) :
    (w - BitVec.ofNat 32 k).toNat = w.toNat - k := by
  have := w.isLt
  rw [BitVec.toNat_sub, BitVec.toNat_ofNat, Nat.mod_eq_of_lt (a := k) (by omega)]
  omega

theorem elementAddress_of_spanned {i : Nat} (spanned : x.step.spanned = true)
    (fits : x.start.toNat + i * b < 2 ^ 32) : (x.elementAddress b i).toNat = x.start.toNat + i * b := by
  unfold Side.elementAddress
  obtain step | step := Stepping.spanned_iff.1 spanned <;> rw [step] <;> exact toNat_add_ofNat fits

/-- Where an element of a side stands, by its stepping. -/
def Side.lowAddress (x : Side) (b i : Nat) : Int :=
  if x.step = .decrement then (x.start.toNat : Int) - i * b
  else if x.step = .fixed then (x.start.toNat : Int) else x.start.toNat + i * b

theorem lowAddress_of_spanned (spanned : x.step.spanned = true) (i : Nat) :
    x.lowAddress b i = (x.start.toNat + i * b : Nat) := by
  obtain step | step := Stepping.spanned_iff.1 spanned <;> simp [Side.lowAddress, step]

theorem elementAddress_of_single {i : Nat} (single : x.step.spanned = false)
    (low : 0 ≤ x.lowAddress b i) : ((x.elementAddress b i).toNat : Int) = x.lowAddress b i := by
  cases step : x.step with
  | increment => simp [step, Stepping.spanned] at single
  | incrementRewind => simp [step, Stepping.spanned] at single
  | decrement =>
    simp only [Side.lowAddress, step, if_true] at low ⊢
    have below : i * b ≤ x.start.toNat := by
      have : ((i * b : Nat) : Int) = (i : Int) * b := by push_cast; rfl
      omega
    simp only [Side.elementAddress, step]
    rw [toNat_sub_ofNat below, Nat.cast_sub below, Nat.cast_mul]
  | fixed => simp [Side.elementAddress, Side.lowAddress, step]

/-- The address of a transaction of a spanned side whose elements all lie in the address space. -/
theorem txn_address_of_spanned (spanned : x.step.spanned = true)
    (fits : ∀ i, i < n → 0 ≤ x.lowAddress b i ∧ x.lowAddress b i + b ≤ 4294967296)
    (pos : 1 ≤ b) (within : (x.txn dir b n j).first < n) :
    (x.txn dir b n j).address.toNat = x.start.toNat + (x.txn dir b n j).first * b := by
  have high := (fits _ within).2
  rw [lowAddress_of_spanned spanned] at high
  exact elementAddress_of_spanned (i := (x.txn dir b n j).first) spanned (by omega)

/-- An element that stands at a multiple of its size lies in one span. -/
theorem element_in_span {a : Nat} (bytes : b = 1 ∨ b = 2 ∨ b = 4 ∨ b = 8) (aligned : a % b = 0) :
    a / 32 = (a + b - 1) / 32 := by
  obtain rfl | rfl | rfl | rfl := bytes <;> omega

theorem lowAddress_aligned (bytes : b = 1 ∨ b = 2 ∨ b = 4 ∨ b = 8) (aligned : x.start.toNat % b = 0) (i : Nat) :
    x.lowAddress b i % b = 0 := by
  unfold Side.lowAddress
  split_ifs
  all_goals obtain rfl | rfl | rfl | rfl := bytes <;> push_cast <;> omega

end Sys2Proof.Machine

open Sys2Proof Sys2Proof.Machine

/-- Settles O38: one element to a transaction, or spans filled in ascending order. -/
theorem transactionsTileTheUnit : Obligations.TransactionsTileTheUnit := by
  intro x dir size n some_ most aligned b low fits first past
  have bytes : b = 1 ∨ b = 2 ∨ b = 4 ∨ b = 8 := size.bytes_mem
  have aligned : x.start.toNat % b = 0 := aligned
  have lows : low = x.lowAddress b := rfl
  clear_value low
  subst lows
  have pos : 1 ≤ b := by omega
  cases spans : x.step.spanned with
  | false =>
    have txn (j : Nat) := txn_of_single (dir := dir) (b := b) (n := n) (j := j) spans
    have step : ¬(x.step = .increment ∨ x.step = .incrementRewind) := fun is => by
      rw [Stepping.spanned_iff.2 is] at spans
      cases spans
    refine ⟨(txn 0).1, ?_, ?_, fun j _ => ?_, fun j within => ?_⟩
    · change (x.txn dir b n (x.txnCount b n - 1)).first + (x.txn dir b n (x.txnCount b n - 1)).elems = n
      rw [(txn _).1, (txn _).2.1, txnCount_of_single spans]
      omega
    · rwa [txnCount_of_single spans]
    · change (x.txn dir b n (j + 1)).first = (x.txn dir b n j).first + (x.txn dir b n j).elems
      rw [(txn _).1, (txn _).1, (txn _).2.1]
    · rw [txnCount_of_single spans] at within
      obtain ⟨low, high⟩ := fits j within
      obtain ⟨at_, one, length, address⟩ := txn j
      have place := elementAddress_of_single spans low
      have multiple := lowAddress_aligned bytes aligned j
      dsimp only
      rw [at_, one, length, address]
      refine ⟨le_rfl, (Nat.one_mul b).symm, by omega, by omega, place,
        element_in_span bytes ?_, fun _ => rfl, fun is => absurd is step⟩
      rw [← place] at multiple
      exact_mod_cast multiple
  | true =>
    have count := txnCount_of_spanned (b := b) (n := n) spans
    have offset := offset_of_spanned spans
    have some_bytes : 1 ≤ n * b := Nat.mul_pos some_ pos
    have counted : 1 ≤ x.txnCount b n := by omega
    have txn (j : Nat) := txn_in_span (dir := dir) (j := j) spans bytes aligned some_
    refine ⟨?_, ?_, counted, fun j within => ?_, fun j within => ?_⟩
    · change (x.txn dir b n 0).first = 0
      rw [first_of_spanned spans, Nat.mul_zero, Nat.zero_sub, Nat.zero_div]
    · exact (txn (x.txnCount b n - 1) (by omega)).2.2.2.2.2 (by omega)
    · obtain ⟨-, -, -, -, next, -⟩ := txn j (by omega)
      exact next within
    · obtain ⟨holds, inside, start, stop, next, -⟩ := txn j within
      have bound : (x.txn dir b n j).past = (x.txn dir b n j).first + (x.txn dir b n j).elems := rfl
      have length : (x.txn dir b n j).length = (x.txn dir b n j).elems * b := rfl
      have address := txn_address_of_spanned (dir := dir) (j := j) spans fits pos (by omega)
      have ends : (x.txn dir b n j).first * b + (x.txn dir b n j).length = (x.txn dir b n j).past * b := by
        rw [length, bound, Nat.add_mul]
      have some_elems : 1 ≤ (x.txn dir b n j).elems := by omega
      have some_bytes : 1 ≤ (x.txn dir b n j).length := length ▸ Nat.mul_pos some_elems pos
      dsimp only
      refine ⟨some_elems, length, some_bytes, by omega, ?_, by omega, fun is => ?_, fun _ more => ?_⟩
      · rw [lowAddress_of_spanned spans, address]
      · obtain is | is := is <;> simp [is, Stepping.spanned] at spans
      · obtain ⟨holds', inside', start', -⟩ := txn (j + 1) more
        have address' := txn_address_of_spanned (dir := dir) (j := j + 1) spans fits pos (by omega)
        omega

end

section
/-! PROOFS. Transfer Engines: responses, failures and refusals while RUNNING and while STOPPING, the end of
a unit, and stop causes (sections 3.4 to 3.6). -/

namespace Sys2Proof.Machine

variable {s u : State} {d : Domain} {e : EngineNo} {g : Engine} {w : Work} {t : Txn}

/-! ### Words under way to an engine (R54) -/

/-- The state after a word has been taken. -/
def State.wordTaken (s : State) (d : Domain) (ws : List EngineWord) : State :=
  s.setWires { s.wires with engineWords := s.wires.engineWords.set d ws }

theorem takeEngineWord_of_first {before after : List EngineWord} {b : EngineWordBody}
    (words : s.wires.engineWords.get d = before ++ ⟨e, b⟩ :: after) (first : ∀ x ∈ before, x.engine ≠ e) :
    s.takeEngineWord d e =
      some (b, s.wordTaken d (before ++ after)) := by
  have takes : takeFirst (fun w => w.engine = e) (s.wires.engineWords.get d) =
      some (⟨e, b⟩, before ++ after) := by
    rw [words]
    exact takeFirst_append (by simpa using first) (by simp)
  rw [State.takeEngineWord, takes]
  rfl

/-- The outstanding list without the transactions that an event ends. -/
def Engine.without (g : Engine) (d : Domain) (gone : Txn → Bool) : Engine :=
  { g with outstanding := g.outstanding.filter fun y => ¬(y.domain = d ∧ gone y.txn = true) }

theorem drop_eq_without (g : Engine) (d : Domain) (t : Txn) : g.drop d t = g.without d fun y => y = t := by
  have same : (fun x : Outstanding => !(decide (x.domain = d) && decide (x.txn = t))) =
      fun y => decide ¬(y.domain = d ∧ decide (y.txn = t) = true) := by
    funext y
    by_cases dom : y.domain = d <;> by_cases txn : y.txn = t <;> simp [dom, txn]
  rw [Engine.drop, Engine.without, same]

theorem dropAll_eq_without (g : Engine) (d : Domain) (ts : List Txn) :
    g.dropAll d ts = g.without d fun y => ts.contains y := by
  have same : (fun x : Outstanding => !(decide (x.domain = d) && ts.contains x.txn)) =
      fun y => decide ¬(y.domain = d ∧ ts.contains y.txn = true) := by
    funext y
    by_cases dom : y.domain = d <;> cases ts.contains y.txn <;> simp [dom]
  rw [Engine.dropAll, Engine.without, same]

theorem without_txn (g : Engine) (d : Domain) (t : Txn) :
    (g.without d fun y => y = t) =
      { g with outstanding := g.outstanding.filter fun y => ¬(y.domain = d ∧ y.txn = t) } := by
  simp only [Engine.without, decide_eq_true_eq]

theorem without_txns (g : Engine) (d : Domain) (ts : List Txn) :
    (g.without d fun y => ts.contains y) =
      { g with outstanding := g.outstanding.filter fun y => ¬(y.domain = d ∧ y.txn ∈ ts) } := by
  simp only [Engine.without, List.contains_iff_mem]

/-! ### The pool when an engine becomes IDLE (R85, R86) -/

/-- A line freed by an engine that waits for none changes nothing else of its record. -/
theorem freeLine_poolEngine {x : HeldLine} (out : e ∉ s.pool.waiting) :
    (s.freeLine e x).poolEngine e =
      { s.poolEngine e with held := (s.poolEngine e).held.filter (fun k => k.line != x.line) } := by
  have self := poolEngine_setPoolEngine_self s e { s.poolEngine e with
      held := (s.poolEngine e).held.filter (fun k => k.line != x.line) }
  unfold State.freeLine State.handOver
  dsimp only
  split
  · split
    · next f waiter =>
      have other : f ≠ e := by
        rintro rfl
        exact out (List.mem_of_find?_eq_some waiter)
      rw [giveLine_poolEngine, if_neg other, self]
    · exact self
  · exact self

theorem freeLines_request {xs : List HeldLine} (out : e ∉ s.pool.waiting) :
    ((s.freeLines e xs).poolEngine e).request = (s.poolEngine e).request := by
  induction xs generalizing s with
  | nil => rfl
  | cons x xs ih =>
    have first := congrArg PoolEngine.request (freeLine_poolEngine (x := x) out)
    exact (ih (freeLine_held out).2).trans first

theorem releaseLines_poolEngine (s : State) (e : EngineNo) : (s.releaseLines e).poolEngine e = .idle := by
  have out : e ∉ (s.dropRequest e).pool.waiting := fun waits =>
    bne_iff_ne.1 (List.mem_filter.1 waits).2 rfl
  have request := freeLines_request (xs := (s.poolEngine e).held) out
  rw [dropRequest_poolEngine, if_pos rfl] at request
  refine (poolEngine_setPoolEngine_self _ e _).trans ?_
  simp only [request, (dropRequest_freeLines_held s e).1]
  rfl

theorem releaseLines_waiting (s : State) (e : EngineNo) : e ∉ (s.releaseLines e).pool.waiting :=
  (dropRequest_freeLines_held s e).2

/-- An engine that is IDLE with no line, no limit, and on no list. -/
structure State.AtRest (s : State) (e : EngineNo) : Prop where
  phase : (s.engine e).phase = .idle
  held : (s.poolEngine e).held = []
  limit : (s.poolEngine e).limit = none
  request : (s.poolEngine e).request = .none
  waiting : e ∉ s.pool.waiting

theorem atRest_of_released (r : EngineReport) :
    (((s.releaseLines e).sendReport r).setEngine e Engine.idle).AtRest e := by
  have record : (((s.releaseLines e).sendReport r).setEngine e Engine.idle).poolEngine e = .idle :=
    releaseLines_poolEngine s e
  refine ⟨by rw [engine_setEngine_self]; rfl, ?_, ?_, ?_, releaseLines_waiting s e⟩ <;>
  · rw [record]
    rfl

/-! ### Stops (R66, R68, R71, R72) -/

theorem reoffer_of_stopping (g : Engine) (w : Work) (c : StopCause) :
    ({ g with phase := .stopping w c } : Engine).reoffer =
      { g with phase := .stopping w c, offers := ⟨none, none⟩ } := rfl

theorem owesNothing_iff : g.owesNothing = true ↔ g.outstanding = [] ∧ ∀ d, g.admission.get d = none := by
  simp only [Engine.owesNothing, Bool.and_eq_true, List.isEmpty_iff, Option.isNone_iff_eq_none, and_assoc]
  refine and_congr_right fun _ => ⟨fun ⟨a, b⟩ d => ?_, fun all => ⟨all .a, all .b⟩⟩
  cases d
  · exact a
  · exact b

theorem tryStopEnd_of_ended {c : StopCause} (stopping : (s.engine e).phase = .stopping w c)
    (owes : (s.engine e).owesNothing = true) :
    s.tryStopEnd e =
      ((s.releaseLines e).sendReport
        ⟨w.channel, .stop
          ⟨w.src.elementAddress w.size.bytes w.confirmed, w.dst.elementAddress w.size.bytes w.confirmed,
            w.confirmed⟩ c⟩).setEngine e Engine.idle := by
  simp [State.tryStopEnd, stopping, owes]

theorem tryStopEnd_of_not_ended
    (other : (∀ w c, (s.engine e).phase ≠ .stopping w c) ∨ (s.engine e).owesNothing = false) :
    s.tryStopEnd e = s := by
  unfold State.tryStopEnd
  dsimp only
  split
  · next w c stopping =>
    obtain running | owes := other
    · exact absurd stopping (running w c)
    · simp [owes]
  · rfl

/-- The state of an engine that has just begun to stop: no offer, no request for room, on no list. -/
def State.stopping (s : State) (e : EngineNo) (g : Engine) (w : Work) (c : StopCause) : State :=
  { s.setEngine e { g with phase := .stopping w c } with
    pool :=
      { s.pool with
        waiting := s.pool.waiting.filter fun f => f ≠ e
        engines := s.pool.engines.put e { s.poolEngine e with request := .none } } }

theorem beginStop_setEngine (s : State) (e : EngineNo) (g : Engine) (w : Work) (c : StopCause) :
    (s.setEngine e g).beginStop e w c = (s.stopping e g w c).tryStopEnd e := by
  have record : (s.setEngine e g).engine e = g.reoffer := engine_setEngine_self s e g
  have once : (s.setEngine e g).setEngine e { g.reoffer with phase := .stopping w c } =
      s.setEngine e { g with phase := .stopping w c } :=
    congrArg (fun x => ({ s with engines := x } : State)) (Table.put_put _ _ _ _)
  have others : s.pool.waiting.filter (· != e) = s.pool.waiting.filter fun f => f ≠ e :=
    List.filter_congr fun f _ => by by_cases h : f = e <;> simp [h]
  rw [State.beginStop, record, once, State.stopping, ← others]
  rfl

theorem beginStop_eq (s : State) (e : EngineNo) (w : Work) (c : StopCause) :
    s.beginStop e w c = (s.stopping e (s.engine e) w c).tryStopEnd e := by
  have others : s.pool.waiting.filter (· != e) = s.pool.waiting.filter fun f => f ≠ e :=
    List.filter_congr fun f _ => by by_cases h : f = e <;> simp [h]
  rw [State.beginStop, State.stopping, ← others]
  rfl

theorem takeFault_setEngine (s : State) (e : EngineNo) (g : Engine) (w : Work) (r : FaultRecord) :
    (s.setEngine e g).takeFault e w r =
      ((s.sendReport ⟨w.channel, .faulted⟩).stopping e g w (.fault r)).tryStopEnd e :=
  beginStop_setEngine (s.sendReport ⟨w.channel, .faulted⟩) e g w (.fault r)

/-! ### Reads (R59, R77) -/

/-- A line after a read has stored its data at its places. -/
def filledLine (old : Table Byte 32) (start length : Nat) (data : List Byte) : Table Byte 32 :=
  .tabulate fun j =>
    if start ≤ j.val ∧ j.val < start + length then data.getD (j.val - start) 0 else old.row j

theorem filledLine_inside {old : Table Byte 32} {start length i : Nat} {data : List Byte} {j : Fin 32}
    (covered : i < length) (whole : data.length = length) (at_ : j.val = start + i) :
    some ((filledLine old start length data).row j) = data[i]? := by
  have inside : start ≤ j.val ∧ j.val < start + length := by omega
  have place : j.val - start = i := by omega
  rw [filledLine, Table.row_tabulate, if_pos inside, place, List.getD_eq_getElem?_getD,
    List.getElem?_eq_getElem (by omega)]
  rfl

theorem filledLine_outside {old : Table Byte 32} {start length : Nat} {data : List Byte} {j : Fin 32}
    (outside : j.val < start ∨ start + length ≤ j.val) :
    (filledLine old start length data).row j = old.row j := by
  rw [filledLine, Table.row_tabulate, if_neg (by omega)]

theorem storeRead_of_line {data : List Byte} {n : StagingLine}
    (line : (s.poolEngine e).lineOf (w.unitLineOf t) = some n) :
    s.storeRead e w t data =
      s.setPool
        { s.pool with
          data :=
            s.pool.data.put n
              (filledLine (s.pool.data.row n) (w.place (w.firstByte t) % 32) t.length data) } := by
  simp only [State.storeRead, line]
  rfl

/-! ### What each word does -/

theorem exec_readResponseOkay {data : List Byte} {v : State}
    (takes : s.takeEngineWord d e = some (.okay t data, v)) (read : t.dir = .read) :
    exec (.readResponseOkay d e) s = .next (v.readOkay d e t data) := by
  change execReadResponseOkay d e s = _
  simp only [execReadResponseOkay, takes, read, if_true]

theorem exec_writeResponseOkay {data : List Byte} {v : State}
    (takes : s.takeEngineWord d e = some (.okay t data, v)) (write : t.dir = .write) :
    exec (.writeResponseOkay d e) s = .next (v.writeOkay d e t) := by
  change execWriteResponseOkay d e s = _
  simp only [execWriteResponseOkay, takes, write, if_true]

theorem exec_responseError {v : State} (takes : s.takeEngineWord d e = some (.error t, v)) :
    exec (.responseError d e) s = .next (v.responseError d e t) := by
  change execResponseError d e s = _
  simp only [execResponseError, takes]

theorem exec_transactionFailure {v : State} {k : FailureKind} {ts : List Txn}
    (takes : s.takeEngineWord d e = some (.failure k ts, v)) :
    exec (.transactionFailure d e) s = .next (v.failTxns d e k ts) := by
  change execTransactionFailure d e s = _
  simp only [execTransactionFailure, takes]

section
variable (running : (s.engine e).phase = .running w)
include running

theorem readOkay_of_running {data : List Byte} :
    s.readOkay d e t data =
      (s.storeRead e w t data).setEngine e
        { (s.engine e).without d (fun y => y = t) with
          phase := .running { w with readBytes := (t.first + t.elems) * w.size.bytes } } := by
  simp only [State.readOkay, running, drop_eq_without]

/-- The state once the elements of a write are confirmed and their lines freed (R60, R82). -/
theorem writeOkay_of_running :
    s.writeOkay d e t =
      if w.elements ≤ w.confirmed + t.elems then
        (((s.setEngine e
          { (s.engine e).without d (fun y => y = t) with
            phase := .running { w with confirmed := w.confirmed + t.elems } }).takeConfirmed e).endUnit e
          { w with confirmed := w.confirmed + t.elems })
      else
        (s.setEngine e
          { (s.engine e).without d (fun y => y = t) with
            phase := .running { w with confirmed := w.confirmed + t.elems } }).takeConfirmed e := by
  simp only [State.writeOkay, running, drop_eq_without]

theorem responseError_of_running :
    s.responseError d e t =
      (s.setEngine e ((s.engine e).without d fun y => y = t)).takeFault e w
        (faultOf (errorKind t.dir) d t false) := by
  simp only [State.responseError, running, drop_eq_without]

theorem failTxns_of_running {k : FailureKind} {ts : List Txn} {r : FaultRecord}
    (record : failureRecord d k ts = some r) :
    s.failTxns d e k ts =
      (s.setEngine e ((s.engine e).without d fun y => ts.contains y)).takeFault e w r := by
  simp only [State.failTxns, running, record, dropAll_eq_without]

theorem refuseOffer_of_running {k : AdmissionKind} :
    s.refuseOffer d e k t =
      (s.setEngine e ((s.engine e).endAdmission d)).takeFault e w (faultOf k.fault d t false) := by
  simp only [State.refuseOffer, running]

end

section
variable {c : StopCause} (stopping : (s.engine e).phase = .stopping w c)
include stopping

/-- A STOPPING engine lets the transactions end, and its stop with them if nothing is left (R70, R72). -/
theorem readOkay_of_stopping {data : List Byte} :
    s.readOkay d e t data =
      (s.setEngine e ((s.engine e).without d fun y => y = t)).tryStopEnd e := by
  simp only [State.readOkay, stopping, drop_eq_without]
  rfl

theorem writeOkay_of_stopping :
    s.writeOkay d e t =
      (s.setEngine e ((s.engine e).without d fun y => y = t)).tryStopEnd e := by
  simp only [State.writeOkay, stopping, drop_eq_without]
  rfl

theorem responseError_of_stopping :
    s.responseError d e t =
      (s.setEngine e ((s.engine e).without d fun y => y = t)).tryStopEnd e := by
  simp only [State.responseError, stopping, drop_eq_without]
  rfl

theorem failTxns_of_stopping {k : FailureKind} {ts : List Txn} :
    s.failTxns d e k ts =
      (s.setEngine e ((s.engine e).without d fun y => ts.contains y)).tryStopEnd e := by
  simp only [State.failTxns, stopping, dropAll_eq_without]
  rfl

theorem refuseOffer_of_stopping {k : AdmissionKind} :
    s.refuseOffer d e k t = (s.setEngine e ((s.engine e).endAdmission d)).tryStopEnd e := by
  simp only [State.refuseOffer, stopping]

end

/-! ### Offers that come back (R63, R110) -/

theorem exec_admissionRefusal {k : AdmissionKind} (word : (s.wires.offersBack.get d).row e = some (.refused k))
    (admission : (s.engine e).admission.get d = some t) :
    exec (.admissionRefusal d e) s = .next ((s.setOfferBack d e none).refuseOffer d e k t) := by
  change execAdmissionRefusal d e s = _
  simp only [execAdmissionRefusal, word, admission]

theorem exec_offerReturned (word : (s.wires.offersBack.get d).row e = some .returned) :
    exec (.offerReturned d e) s =
      .next (((s.setOfferBack d e none).setEngine e
        ((s.engine e).endAdmission d)).tryStopEnd e) := by
  change execOfferReturned d e s = _
  simp only [execOfferReturned, word]
  rfl

/-! ### Stop causes (R50, R68–R70) -/

/-- The engine has a unit of the channel, RUNNING or STOPPING. -/
def Engine.Serves (g : Engine) (ch : ChannelNo) : Prop :=
  ∃ w, (g.phase = .running w ∨ ∃ k, g.phase = .stopping w k) ∧ w.channel = ch

theorem servedBy_eq_lowest {ch : ChannelNo} (serves : (s.engine e).Serves ch)
    (lower : ∀ f < e, ¬(s.engine f).Serves ch) : s.servedBy ch = some e := by
  refine finRange_find?_eq_lowest ?_ fun f less => ?_
  · obtain ⟨w, running | ⟨k, stopping⟩, channel⟩ := serves
    · simp [running, channel]
    · simp [stopping, channel]
  · have other := lower f less
    split
    · rfl
    · next w running => exact decide_eq_false fun channel => other ⟨w, .inl running, channel⟩
    · next w k stopping => exact decide_eq_false fun channel => other ⟨w, .inr ⟨k, stopping⟩, channel⟩

theorem servedBy_eq_none {ch : ChannelNo} (unserved : ∀ e, ¬(s.engine e).Serves ch) : s.servedBy ch = none := by
  refine List.find?_eq_none.2 fun f _ found => ?_
  have other := unserved f
  split at found
  · cases found
  · next w running => exact other ⟨w, .inl running, of_decide_eq_true found⟩
  · next w k stopping => exact other ⟨w, .inr ⟨k, stopping⟩, of_decide_eq_true found⟩

/-- The row of a stop cause, and the cause it stops a unit with. -/
def SentCause.row (c : SentCause) (ch : ChannelNo) : Instr :=
  match c with
  | .abort => .stopCauseAbort ch
  | .teardown => .stopCauseTeardown ch

def SentCause.cause : SentCause → StopCause
  | .abort => .abort
  | .teardown => .teardown

/-- What the engine that serves the channel makes of a cause. -/
def State.takeSent (s : State) (ch : ChannelNo) : SentCause → State
  | .abort => s.causeAbort ch
  | .teardown => s.causeTeardown ch

theorem exec_stopCause {ch : ChannelNo} {c : SentCause} {before after : List CauseWord}
    (causes : s.wires.causes = before ++ ⟨ch, c⟩ :: after) (first : ∀ x ∈ before, x.channel ≠ ch) :
    exec (c.row ch) s = .next ((s.setWires { s.wires with causes := before ++ after }).takeSent ch c) := by
  have takes : takeFirst (fun w => w.channel = ch) s.wires.causes = some (⟨ch, c⟩, before ++ after) := by
    rw [causes]
    exact takeFirst_append (by simpa using first) (by simp)
  cases c with
  | abort =>
    change execStopCauseAbort ch s = _
    simp only [execStopCauseAbort, State.takeCause, takes, if_true]
    rfl
  | teardown =>
    change execStopCauseTeardown ch s = _
    simp only [execStopCauseTeardown, State.takeCause, takes, if_true]
    rfl

theorem takeSent_of_unserved {ch : ChannelNo} {c : SentCause} (none : s.servedBy ch = none) :
    s.takeSent ch c = s := by
  cases c <;> simp [State.takeSent, State.causeAbort, State.causeTeardown, none]

section
variable {ch : ChannelNo} (server : s.servedBy ch = some e)
include server

theorem takeSent_of_running (running : (s.engine e).phase = .running w) (c : SentCause) :
    s.takeSent ch c = (s.stopping e (s.engine e) w c.cause).tryStopEnd e := by
  rw [← beginStop_eq]
  cases c <;> simp [State.takeSent, State.causeAbort, State.causeTeardown, server, running, SentCause.cause]

variable {k : StopCause} (stopping : (s.engine e).phase = .stopping w k)
include stopping

theorem takeSent_abort_of_stopping : s.takeSent ch .abort = s := by
  simp [State.takeSent, State.causeAbort, server, stopping]

theorem takeSent_teardown_of_stopping :
    s.takeSent ch .teardown =
      (s.setEngine e { s.engine e with phase := .stopping w .teardown }).tryStopEnd e := by
  simp [State.takeSent, State.causeTeardown, server, stopping]

end

/-- A state in which the engine has taken a cause: STOPPING with it and without offers, the other engines
and what is under way as they were. -/
structure State.Takes (u v : State) (e : EngineNo) (w : Work) (c : StopCause) : Prop where
  engine : v.engine e = { u.engine e with phase := .stopping w c, offers := ⟨none, none⟩ }
  others : ∀ f, f ≠ e → v.engine f = u.engine f
  wires : v.wires = u.wires

theorem takes_setEngine (u : State) (e : EngineNo) (w : Work) (c : StopCause) :
    u.Takes (u.setEngine e { u.engine e with phase := .stopping w c }) e w c where
  engine := engine_setEngine_self _ _ _
  others f other := by rw [engine_setEngine, if_neg (Ne.symm other)]
  wires := rfl

theorem State.Takes.owing {v : State} {c : StopCause} (h : u.Takes v e w c)
    (owing : (u.engine e).owesNothing = false) : v.tryStopEnd e = v :=
  tryStopEnd_of_not_ended (.inr (by rw [h.engine]; exact owing))

theorem State.Takes.ended {v : State} {c : StopCause} (h : u.Takes v e w c)
    (owes : (u.engine e).owesNothing = true) :
    (v.tryStopEnd e).AtRest e ∧
      (v.tryStopEnd e).wires.reports =
        u.wires.reports ++
          [⟨w.channel, .stop
            ⟨w.src.elementAddress w.size.bytes w.confirmed, w.dst.elementAddress w.size.bytes w.confirmed,
              w.confirmed⟩ c⟩] := by
  have record := h.engine
  rw [tryStopEnd_of_ended (s := v) (w := w) (c := c) (by rw [record]) (by rw [record]; exact owes), ← h.wires]
  refine ⟨atRest_of_released _, ?_⟩
  have wires : (v.releaseLines e).wires = v.wires := by simp
  change (v.releaseLines e).wires.reports ++ _ = _
  rw [wires]

/-! ### Addresses of elements (Table 3-4) -/

theorem toNat_add_ofNat_int (x : Word) (k : Nat) :
    ((x + BitVec.ofNat 32 k).toNat : Int) = ((x.toNat : Int) + k) % 2 ^ 32 := by
  rw [BitVec.toNat_add, BitVec.toNat_ofNat, Nat.add_mod_mod]
  push_cast
  rfl

theorem toNat_sub_ofNat_int (x : Word) (k : Nat) :
    ((x - BitVec.ofNat 32 k).toNat : Int) = ((x.toNat : Int) - k) % 2 ^ 32 := by
  have := x.isLt
  rw [BitVec.toNat_sub, BitVec.toNat_ofNat]
  omega

end Sys2Proof.Machine

open Sys2Proof Sys2Proof.Machine

/-- Settles O39: the line of the read is filled at its places. -/
theorem readOkayFillsStaging : Obligations.ReadOkayFillsStaging := by
  intro s d e t data before after w n words first read running whole start line held
  have stores := storeRead_of_line (s := s.wordTaken d (before ++ after)) (t := t) (data := data) held
  refine ⟨s.pool.data.put n (filledLine (s.pool.data.row n) start t.length data), ?_, fun m other => ?_,
    fun j => ⟨fun i covered at_ => ?_, fun outside => ?_⟩⟩
  · rw [exec_readResponseOkay (takeEngineWord_of_first words first) read,
      readOkay_of_running (s := s.wordTaken d (before ++ after)) running, without_txn, stores]
    rfl
  · exact Table.row_put_of_ne _ (Ne.symm other) _
  · rw [Table.row_put_self]
    exact filledLine_inside covered whole at_
  · rw [Table.row_put_self]
    exact filledLine_outside outside

/-- Settles O40: confirmed elements free their lines, and the last of them ends the unit. -/
theorem writeOkayConfirmsAndEndsUnit : Obligations.WriteOkayConfirmsAndEndsUnit := by
  intro s d e t data before after w words first write running v u left
  have runs : exec (.writeResponseOkay d e) s =
      .next (if w.elements ≤ w.confirmed + t.elems then u.endUnit e v else u) := by
    rw [exec_writeResponseOkay (takeEngineWord_of_first words first) write,
      writeOkay_of_running (s := s.wordTaken d (before ++ after)) running, without_txn]
    rfl
  refine ⟨fun more => ?_, fun all => ⟨?_, fun x ran => ?_⟩⟩
  · rw [runs, if_neg (Nat.not_le.2 more)]
  · rw [runs, if_pos all]
    rfl
  · rw [runs, if_pos all] at ran
    cases ran
    have rest := atRest_of_released (s := u) (e := e) (⟨w.channel, .unitEnd ⟨left w.src, left w.dst, w.elements⟩
      w.origin⟩)
    exact ⟨rest.phase, rest.held, rest.limit, rest.request, rest.waiting⟩

/-- Settles O41: a refusal, an ERROR and a failure, each with its record. -/
theorem runningEngineFaults : Obligations.RunningEngineFaults := by
  intro s d e w running
  refine ⟨fun k t word admission => ?_, fun before after b words first => ⟨fun t error => ?_,
    fun k t ts failure => ?_⟩⟩
  · rw [exec_admissionRefusal word admission,
      refuseOffer_of_running (s := s.setOfferBack d e none) running, takeFault_setEngine]
    cases k <;> rfl
  · subst error
    rw [exec_responseError (takeEngineWord_of_first words first),
      responseError_of_running (s := s.wordTaken d (before ++ after)) running, without_txn, takeFault_setEngine]
    cases t.dir <;> rfl
  · subst failure
    rw [exec_transactionFailure (takeEngineWord_of_first words first)]
    cases k <;>
    · rw [failTxns_of_running (s := s.wordTaken d (before ++ after)) running rfl, without_txns,
        takeFault_setEngine]
      rfl

/-- Settles O42: the transactions end, and with the last of them the stop. -/
theorem stoppingEngineAbsorbs : Obligations.StoppingEngineAbsorbs := by
  intro s d e
  refine ⟨fun w c stopping before after b words first => ⟨fun t data okay read => ?_, fun t data okay write => ?_,
    fun t error => ?_, fun k ts failure => ?_⟩, exec_offerReturned, fun word w running => ?_,
    fun w c k t stopping word admission => ?_⟩
  · subst okay
    rw [exec_readResponseOkay (takeEngineWord_of_first words first) read]
    exact congrArg Host.Outcome.next (readOkay_of_stopping (s := s.wordTaken d (before ++ after)) stopping)
  · subst okay
    rw [exec_writeResponseOkay (takeEngineWord_of_first words first) write]
    exact congrArg Host.Outcome.next (writeOkay_of_stopping (s := s.wordTaken d (before ++ after)) stopping)
  · subst error
    rw [exec_responseError (takeEngineWord_of_first words first)]
    exact congrArg Host.Outcome.next (responseError_of_stopping (s := s.wordTaken d (before ++ after)) stopping)
  · subst failure
    rw [exec_transactionFailure (takeEngineWord_of_first words first)]
    exact congrArg Host.Outcome.next (failTxns_of_stopping (s := s.wordTaken d (before ++ after)) stopping)
  · refine (exec_offerReturned word).trans (congrArg Host.Outcome.next
      (tryStopEnd_of_not_ended (.inl fun w' c phase => ?_)))
    have still : (((s.setOfferBack d e none).setEngine e ((s.engine e).endAdmission d)).engine e).phase =
        .running w := by
      rw [engine_setEngine_self]
      exact running
    rw [still] at phase
    cases phase
  · rw [exec_admissionRefusal word admission]
    exact congrArg Host.Outcome.next (refuseOffer_of_stopping (s := s.setOfferBack d e none) stopping)

/-- Settles O43: what an engine owes, where its elements stand, the end of a stop, and the causes. -/
theorem stopCausesEndInStopReports : Obligations.StopCausesEndInStopReports := by
  refine ⟨fun g => owesNothing_iff, fun x bytes i => ?_, fun s e => ⟨fun w c => tryStopEnd_of_ended,
    tryStopEnd_of_not_ended⟩, fun s ch before after c causes first => ?_⟩
  · have cast : ((i * bytes : Nat) : Int) = (i : Int) * bytes := Nat.cast_mul i bytes
    dsimp only
    unfold Side.elementAddress
    cases x.step <;> dsimp only
    · rw [toNat_add_ofNat_int, cast]
    · rw [toNat_sub_ofNat_int, cast]
    · rw [toNat_add_ofNat_int, cast]
  · intro row cause u
    have runs : exec row s = .next (u.takeSent ch c) := by
      have taken := exec_stopCause causes first
      cases c <;> exact taken
    have causes' : cause = c.cause := by cases c <;> rfl
    refine ⟨fun unserved => ?_, fun e w channel lower => ?_⟩
    · rw [runs, takeSent_of_unserved (s := u) (servedBy_eq_none fun e ⟨w, phase, channel⟩ => unserved e w phase channel)]
    · have server (serves : (s.engine e).phase = .running w ∨ ∃ k, (s.engine e).phase = .stopping w k) :
          u.servedBy ch = some e :=
        servedBy_eq_lowest ⟨w, serves, channel⟩ fun f less ⟨x, phase, channel⟩ => lower f x less phase channel
      refine ⟨fun k stopping abort => ?_, fun phase => ?_⟩
      · subst abort
        rw [runs, takeSent_abort_of_stopping (server (.inr ⟨k, stopping⟩)) stopping]
      · have takes : ∃ v, exec row s = .next (v.tryStopEnd e) ∧ u.Takes v e w cause ∧
            ((s.engine e).phase = .running w → (v.poolEngine e).request = .none ∧ e ∉ v.pool.waiting) := by
          obtain running | ⟨⟨k, stopping⟩, teardown⟩ := phase
          · refine ⟨u.stopping e (u.engine e) w cause, ?_, takes_setEngine u e w cause |> fun h =>
              ⟨h.engine, h.others, h.wires⟩, fun _ => ⟨?_, fun waits => ?_⟩⟩
            · rw [runs, takeSent_of_running (server (.inl running)) running, causes']
            · exact congrArg PoolEngine.request (Table.row_put_self _ _ _)
            · simpa using (List.mem_filter.1 waits).2
          · subst teardown
            refine ⟨u.setEngine e { u.engine e with phase := .stopping w .teardown }, ?_,
              takes_setEngine u e w .teardown, fun running => ?_⟩
            · rw [runs, takeSent_teardown_of_stopping (server (.inr ⟨k, stopping⟩)) stopping]
            · rw [stopping] at running
              cases running
        obtain ⟨v, ran, taken, pool⟩ := takes
        refine ⟨fun owing => ⟨v, ?_, taken.engine, taken.others, taken.wires, pool⟩, fun owes =>
          ⟨v.tryStopEnd e, ran, ?_⟩⟩
        · rw [ran, taken.owing owing]
        · obtain ⟨rest, reports⟩ := taken.ended owes
          rw [channel] at reports
          exact ⟨rest.phase, reports, rest.held, rest.limit, rest.request, rest.waiting⟩

end

section
/-! PROOFS. The Staging Pool: room given by case, lines handed over as they fall free, and requests taken up
(R78–R86). -/

namespace Sys2Proof.Machine

variable {s : State} {e : EngineNo} {w : Work} {k : LineLimit} {n : StagingLine} {x : PoolEngine}

/-! ### Which line an engine may take (R79, R83) -/

theorem PoolEngine.holds_iff : x.holds n = true ↔ ∃ h ∈ x.held, h.line.val = n.val := by
  simp [holds, Fin.ext_iff]

theorem PoolEngine.freeReserve_of_low (low : ¬∃ h ∈ x.held, h.line.val = 2 * e.val) :
    x.freeReserve e = some (reserveLow e) := by
  have free : x.holds (reserveLow e) = false := Bool.eq_false_iff.2 fun held => low (holds_iff.1 held)
  simp [freeReserve, free]

theorem PoolEngine.freeReserve_of_high (low : ∃ h ∈ x.held, h.line.val = 2 * e.val)
    (high : ¬∃ h ∈ x.held, h.line.val = 2 * e.val + 1) : x.freeReserve e = some (reserveHigh e) := by
  have held : x.holds (reserveLow e) = true := holds_iff.2 low
  have free : x.holds (reserveHigh e) = false := Bool.eq_false_iff.2 fun held => high (holds_iff.1 held)
  simp [freeReserve, held, free]

theorem PoolEngine.freeReserve_of_none (low : ∃ h ∈ x.held, h.line.val = 2 * e.val)
    (high : ∃ h ∈ x.held, h.line.val = 2 * e.val + 1) : x.freeReserve e = none := by
  have lowHeld : x.holds (reserveLow e) = true := holds_iff.2 low
  have highHeld : x.holds (reserveHigh e) = true := holds_iff.2 high
  simp [freeReserve, lowHeld, highHeld]

theorem eq_reserveLow (is : n.val = 2 * e.val) : n = reserveLow e := Fin.ext is

theorem eq_reserveHigh (is : n.val = 2 * e.val + 1) : n = reserveHigh e := Fin.ext is

theorem PoolEngine.fair_of_limit (limit : x.limit = some k) : x.fair = k.fair := by
  simp [fair, limit]

theorem PoolEngine.limitLines_of_limit (limit : x.limit = some k) : x.limitLines = k.lines := by
  simp [limitLines, limit]

theorem PoolEngine.mayTake_iff {free : Nat} :
    x.mayTake free = true ↔ if x.fair then 60 ≤ free else 1 ≤ free := by
  cases fair : x.fair
  · simp [mayTake, fair, Nat.succ_le_iff]
  · simp only [mayTake, fair, if_true, decide_eq_true_eq]
    exact Iff.rfl

/-! ### A line given (R79) -/

/-- The state once the engine holds the line, with what remains of the free list. -/
def State.given (s : State) (e : EngineNo) (w : Work) (n : StagingLine) (free : List StagingLine) : State :=
  ({ s with
      pool :=
        { s.pool with
          free := free
          waiting := s.pool.waiting.filter fun f => f ≠ e
          engines :=
            s.pool.engines.put e
              { s.poolEngine e with
                held :=
                  (s.poolEngine e).held ++
                    [⟨(w.src.offset + w.src.firstElement w.size.bytes w.readPos * w.size.bytes) / 32, n⟩]
                request := .none } } } : State).setEngine e
    { s.engine e with phase := .running { w with room := true } }

theorem filter_other (es : List EngineNo) (e : EngineNo) :
    es.filter (· != e) = es.filter fun f => f ≠ e :=
  List.filter_congr fun f _ => by by_cases h : f = e <;> simp [h]

theorem givenRoom_of_running {g : Engine} (running : g.phase = .running w) :
    g.givenRoom = { g with phase := .running { w with room := true } } := by
  simp [Engine.givenRoom, running]

theorem wantedLine_of_running {g : Engine} (running : g.phase = .running w) :
    g.wantedLine = (w.src.offset + w.src.firstElement w.size.bytes w.readPos * w.size.bytes) / 32 := by
  simp only [Engine.wantedLine, running]
  rfl

theorem giveLine_of_running (running : (s.engine e).phase = .running w) (n : StagingLine) :
    s.giveLine e n = s.given e w n s.pool.free := by
  rw [State.giveLine, givenRoom_of_running running, wantedLine_of_running running, filter_other]
  rfl

/-! ### A request decided by the first case that applies (R79) -/

/-- The engine has to wait, with the request it stands with. -/
def State.listed (s : State) (e : EngineNo) : State :=
  s.setPool
    { s.pool with
      engines := s.pool.engines.put e { s.poolEngine e with request := .listed }
      waiting := s.pool.waiting ++ [e] }

theorem requestLine_at_limit (full : (s.poolEngine e).limitLines ≤ (s.poolEngine e).held.length) :
    s.requestLine e = s.setPoolEngine e { s.poolEngine e with request := .atLimit } := if_pos full

section
variable (room : (s.poolEngine e).held.length < (s.poolEngine e).limitLines)
include room

theorem requestLine_of_reserve (reserve : (s.poolEngine e).freeReserve e = some n) :
    s.requestLine e = s.giveLine e n := by
  simp [State.requestLine, Nat.not_le.2 room, reserve]

theorem requestLine_of_shared {rest : List StagingLine} (reserve : (s.poolEngine e).freeReserve e = none)
    (free : s.pool.free = n :: rest) (may : (s.poolEngine e).mayTake s.pool.free.length = true) :
    s.requestLine e = (s.setPool { s.pool with free := rest }).giveLine e n := by
  rw [free, List.length_cons] at may
  simp [State.requestLine, Nat.not_le.2 room, reserve, free, may]

theorem requestLine_of_waiting (reserve : (s.poolEngine e).freeReserve e = none)
    (may : (s.poolEngine e).mayTake s.pool.free.length = false) : s.requestLine e = s.listed e := by
  unfold State.requestLine
  dsimp only
  rw [if_neg (Nat.not_le.2 room), reserve]
  dsimp only
  split
  · next m rest free =>
    rw [if_neg (by simp [may])]
    rfl
  · rfl

end

/-- The four outcomes for an engine below its limit, as sections 4.3 and 4.6 tell them. -/
structure State.RoomGiven (s t : State) (e : EngineNo) (w : Work) (k : LineLimit) : Prop where
  low : (¬∃ h ∈ (s.poolEngine e).held, h.line.val = 2 * e.val) →
    ∀ n : StagingLine, n.val = 2 * e.val → t = s.given e w n s.pool.free
  high : (∃ h ∈ (s.poolEngine e).held, h.line.val = 2 * e.val) →
    (¬∃ h ∈ (s.poolEngine e).held, h.line.val = 2 * e.val + 1) →
    ∀ n : StagingLine, n.val = 2 * e.val + 1 → t = s.given e w n s.pool.free
  shared : (∃ h ∈ (s.poolEngine e).held, h.line.val = 2 * e.val) →
    (∃ h ∈ (s.poolEngine e).held, h.line.val = 2 * e.val + 1) →
    (if k.fair then 60 ≤ s.pool.free.length else 1 ≤ s.pool.free.length) →
    ∀ n rest, s.pool.free = n :: rest → t = s.given e w n rest
  waits : (∃ h ∈ (s.poolEngine e).held, h.line.val = 2 * e.val) →
    (∃ h ∈ (s.poolEngine e).held, h.line.val = 2 * e.val + 1) →
    ¬(if k.fair then 60 ≤ s.pool.free.length else 1 ≤ s.pool.free.length) → t = s.listed e

theorem requestLine_roomGiven (running : (s.engine e).phase = .running w)
    (limit : (s.poolEngine e).limit = some k) (room : (s.poolEngine e).held.length < k.lines) :
    s.RoomGiven (s.requestLine e) e w k := by
  have below : (s.poolEngine e).held.length < (s.poolEngine e).limitLines := by
    rwa [PoolEngine.limitLines_of_limit limit]
  have may := PoolEngine.mayTake_iff (x := s.poolEngine e) (free := s.pool.free.length)
  rw [PoolEngine.fair_of_limit limit] at may
  refine ⟨fun low n is => ?_, fun low high n is => ?_, fun low high allowed n rest free => ?_,
    fun low high barred => ?_⟩
  · rw [eq_reserveLow is, requestLine_of_reserve below (PoolEngine.freeReserve_of_low low),
      giveLine_of_running running]
  · rw [eq_reserveHigh is, requestLine_of_reserve below (PoolEngine.freeReserve_of_high low high),
      giveLine_of_running running]
  · rw [requestLine_of_shared below (PoolEngine.freeReserve_of_none low high) free (may.2 allowed)]
    exact giveLine_of_running (s := s.setPool { s.pool with free := rest }) running n
  · exact requestLine_of_waiting below (PoolEngine.freeReserve_of_none low high)
      (Bool.eq_false_iff.2 fun takes => barred (may.1 takes))

/-! ### Requests for room (R78) -/

theorem Work.needsLine_iff :
    w.needsLine = true ↔
      w.src.step = .increment ∨ w.src.step = .incrementRewind ∨
        (w.src.firstElement w.size.bytes w.readPos * w.size.bytes) % 32 = 0 := by
  have read : w.firstByte (w.read w.readPos) = w.src.firstElement w.size.bytes w.readPos * w.size.bytes := rfl
  simp [needsLine, read, Stepping.spanned_iff, or_assoc]

section
variable (running : (s.engine e).phase = .running w) (more : w.readPos < w.reads) (roomless : w.room = false)
  (request : (s.poolEngine e).request = .none)
include running more roomless request

theorem exec_roomRequest_of_start (starts : w.needsLine = true) :
    exec (.roomRequest e) s = .next (s.requestLine e) := by
  change execRoomRequest e s = _
  simp [execRoomRequest, running, request, Work.asksRoom, more, roomless, starts]

theorem exec_roomRequest_of_within (within : w.needsLine = false) :
    exec (.roomRequest e) s =
      .next (s.setEngine e { s.engine e with phase := .running { w with room := true } }) := by
  change execRoomRequest e s = _
  simp [execRoomRequest, running, request, Work.asksRoom, more, roomless, within, givenRoom_of_running running]

end

/-! ### Lines handed over (R82, R83) -/

theorem handOver_of_waiter {before after : List EngineNo} (waiting : s.pool.waiting = before ++ e :: after)
    (earlier : ∀ f ∈ before, (s.poolEngine f).mayTake (s.pool.free.length + 1) = false)
    (may : (s.poolEngine e).mayTake (s.pool.free.length + 1) = true) : s.handOver n = s.giveLine e n := by
  have found : s.pool.waiting.find? (fun e => (s.poolEngine e).mayTake (s.pool.free.length + 1)) = some e := by
    rw [waiting, List.find?_append, List.find?_eq_none.2 (by simpa using earlier)]
    simp [may]
  rw [State.handOver, found]

theorem handOver_of_none (barred : ∀ f ∈ s.pool.waiting, (s.poolEngine f).mayTake (s.pool.free.length + 1) = false) :
    s.handOver n = s.setPool { s.pool with free := s.pool.free ++ [n] } := by
  rw [State.handOver, List.find?_eq_none.2 (by simpa using barred)]

theorem mayTake_handed_iff {f : EngineNo} :
    (s.poolEngine f).mayTake (s.pool.free.length + 1) = true ↔
      if (s.poolEngine f).fair then 60 ≤ s.pool.free.length + 1 else True := by
  rw [PoolEngine.mayTake_iff]
  cases (s.poolEngine f).fair <;> simp

theorem sharedLine_iff : sharedLine n = true ↔ 8 ≤ n.val := decide_eq_true_iff

theorem freeLine_eq (s : State) (e : EngineNo) (h : HeldLine) :
    s.freeLine e h =
      if h.line.val < 8 then
        s.setPoolEngine e
          { s.poolEngine e with held := (s.poolEngine e).held.filter fun g => g.line ≠ h.line }
      else
        (s.setPoolEngine e
          { s.poolEngine e with held := (s.poolEngine e).held.filter fun g => g.line ≠ h.line }).handOver
          h.line := by
  have others : (s.poolEngine e).held.filter (fun g => g.line != h.line) =
      (s.poolEngine e).held.filter fun g => g.line ≠ h.line :=
    List.filter_congr fun g _ => by by_cases same : g.line = h.line <;> simp [same]
  unfold State.freeLine
  dsimp only
  rw [others]
  by_cases own : h.line.val < 8
  · rw [if_pos own, if_neg (by rw [sharedLine_iff]; omega)]
  · rw [if_neg own, if_pos (by rw [sharedLine_iff]; omega)]

theorem dropRequest_of_quiet (request : (s.poolEngine e).request = .none) (out : e ∉ s.pool.waiting) :
    s.dropRequest e = s := by
  have record : ({ s.poolEngine e with request := .none } : PoolEngine) = s.poolEngine e := by rw [← request]
  have waiting : s.pool.waiting.filter (· != e) = s.pool.waiting :=
    List.filter_eq_self.2 fun f mem => bne_iff_ne.2 fun same => out (same ▸ mem)
  rw [State.dropRequest, record, waiting, State.poolEngine, Table.put_row_self]
  rfl

/-- What a waiter that takes a line has afterwards, the other engines as they were (R83). -/
theorem giveLine_handed (s : State) (e : EngineNo) (n : StagingLine) :
    (s.giveLine e n).pool.free = s.pool.free ∧ ((s.giveLine e n).poolEngine e).request = .none ∧
      e ∉ (s.giveLine e n).pool.waiting ∧
      ((s.giveLine e n).poolEngine e).lines = (s.poolEngine e).lines ++ [n] ∧
      (∀ f, f ≠ e → (s.giveLine e n).poolEngine f = s.poolEngine f ∧ (s.giveLine e n).engine f = s.engine f) ∧
      ∀ w, (s.engine e).phase = .running w →
        ((s.giveLine e n).engine e).phase = .running { w with room := true } := by
  have self := giveLine_poolEngine s e n e
  rw [if_pos rfl] at self
  refine ⟨rfl, by rw [self], fun waits => bne_iff_ne.1 (List.mem_filter.1 waits).2 rfl, ?_,
    fun f other => ⟨?_, ?_⟩, fun w running => ?_⟩
  · rw [self, PoolEngine.lines, List.map_append]
    rfl
  · rw [giveLine_poolEngine, if_neg (Ne.symm other)]
  · exact Table.row_put_of_ne _ (Ne.symm other) _
  · rw [State.giveLine, engine_setEngine_self, givenRoom_of_running running]
    rfl

/-- An engine without a request gives up its lines, and then has no limit (R85, R86). -/
theorem releaseLines_of_quiet (request : (s.poolEngine e).request = .none) (out : e ∉ s.pool.waiting) :
    s.releaseLines e =
      (s.freeLines e (s.poolEngine e).held).setPoolEngine e
        { (s.freeLines e (s.poolEngine e).held).poolEngine e with limit := none } := by
  rw [State.releaseLines, dropRequest_of_quiet request out]

/-! ### Requests taken up (R84) -/

theorem takeUpRequest_of_none (request : (s.poolEngine e).request = .none) (reserve : Bool) :
    s.takeUpRequest e reserve = s := by
  simp [State.takeUpRequest, request]

theorem takeUpRequest_of_atLimit (request : (s.poolEngine e).request = .atLimit) (reserve : Bool) :
    s.takeUpRequest e reserve = s.requestLine e := by
  simp [State.takeUpRequest, request]

section
variable (request : (s.poolEngine e).request = .listed)
include request

theorem takeUpRequest_of_reserve (free : (s.poolEngine e).freeReserve e = some n) :
    s.takeUpRequest e true = s.giveLine e n := by
  simp [State.takeUpRequest, request, free]

theorem takeUpRequest_of_no_reserve {reserve : Bool}
    (nothing : reserve = false ∨ (s.poolEngine e).freeReserve e = none) : s.takeUpRequest e reserve = s := by
  obtain none_freed | none_free := nothing
  · simp [State.takeUpRequest, request, none_freed]
  · cases reserve <;> simp [State.takeUpRequest, request, none_free]

end

/-! ### Confirmed bytes (R82) -/

section
variable (running : (s.engine e).phase = .running w)
include running

theorem takeConfirmed_of_none (nothing : (s.poolEngine e).held.filter (fun h => w.shareConfirmed h.unitLine) = []) :
    s.takeConfirmed e = s := by
  simp [State.takeConfirmed, running, nothing]

theorem takeConfirmed_of_some
    (something : (s.poolEngine e).held.filter (fun h => w.shareConfirmed h.unitLine) ≠ []) :
    s.takeConfirmed e =
      (s.freeLines e ((s.poolEngine e).held.filter fun h => w.shareConfirmed h.unitLine)).takeUpRequest e
        (((s.poolEngine e).held.filter fun h => w.shareConfirmed h.unitLine).any fun h => !sharedLine h.line) := by
  unfold State.takeConfirmed
  rw [running]
  dsimp only
  split
  · next nothing => exact absurd nothing something
  · rfl

end

end Sys2Proof.Machine

open Sys2Proof Sys2Proof.Machine

/-- Settles O44: the request is decided by its first case. -/
theorem roomIsGivenByCase : Obligations.RoomIsGivenByCase := by
  intro s e w k running more roomless x limit request
  refine ⟨fun within => ?_, fun starts => ?_⟩
  · exact exec_roomRequest_of_within running more roomless request
      (Bool.eq_false_iff.2 fun starts => within (Work.needsLine_iff.1 starts))
  have runs := exec_roomRequest_of_start running more roomless request (Work.needsLine_iff.2 starts)
  refine ⟨fun full => ?_, fun room low n is => ?_, fun room low high n is => ?_,
    fun room low high allowed n rest free => ?_, fun room low high barred => ?_⟩
  · rw [runs, requestLine_at_limit (by rwa [PoolEngine.limitLines_of_limit limit])]
    rfl
  · exact runs.trans (congrArg _ ((requestLine_roomGiven running limit room).low low n is))
  · exact runs.trans (congrArg _ ((requestLine_roomGiven running limit room).high low high n is))
  · exact runs.trans (congrArg _ ((requestLine_roomGiven running limit room).shared low high allowed n rest free))
  · exact runs.trans (congrArg _ ((requestLine_roomGiven running limit room).waits low high barred))

/-- Settles O45: the hand-over, the freeing of lines, requests taken up, and the two rows. -/
theorem freedLinesAreHandedOver : Obligations.FreedLinesAreHandedOver := by
  refine ⟨fun s n => ⟨fun e before after waiting earlier may => ?_, fun barred => ?_⟩, fun s e =>
    ⟨⟨rfl, fun h hs => ?_⟩, fun t is => ?_, fun w k reserve running limit => ?_⟩, fun s e w running =>
    ⟨fun none => ?_, fun h held done => ?_⟩, fun s e => ⟨fun idle => ?_, fun w running => ?_,
      fun w c stopping => ⟨fun owing => ?_, fun owes => ?_⟩⟩⟩
  · rw [handOver_of_waiter waiting
      (fun f mem => Bool.eq_false_iff.2 fun takes => earlier f mem (mayTake_handed_iff.1 takes))
      (mayTake_handed_iff.2 may)]
    exact giveLine_handed s e n
  · exact handOver_of_none fun f mem => Bool.eq_false_iff.2 fun takes => barred f mem (mayTake_handed_iff.1 takes)
  · exact congrArg (·.freeLines e hs) (freeLine_eq s e h)
  · subst is
    have record := releaseLines_poolEngine s e
    refine ⟨by rw [record]; rfl, by rw [record]; rfl, by rw [record]; rfl, releaseLines_waiting s e,
      fun request out => ?_⟩
    rw [releaseLines_of_quiet request out]
    exact ⟨rfl, rfl, rfl, fun f other => by rw [poolEngine_setPoolEngine, if_neg (Ne.symm other)]⟩
  · refine ⟨fun request => takeUpRequest_of_none request reserve, fun request => ⟨fun nothing => ?_,
      fun freed low n is => ?_, fun freed low high n is => ?_⟩, fun request room => ?_⟩
    · exact takeUpRequest_of_no_reserve request
        (nothing.imp_right fun ⟨low, high⟩ => PoolEngine.freeReserve_of_none low high)
    · subst freed
      rw [eq_reserveLow is]
      exact (takeUpRequest_of_reserve request (PoolEngine.freeReserve_of_low low)).trans
        (giveLine_of_running running _)
    · subst freed
      rw [eq_reserveHigh is]
      exact (takeUpRequest_of_reserve request (PoolEngine.freeReserve_of_high low high)).trans
        (giveLine_of_running running _)
    · have cases := requestLine_roomGiven running limit room
      rw [← takeUpRequest_of_atLimit request reserve] at cases
      refine ⟨cases.low, cases.high, cases.shared, fun low high barred => ?_⟩
      rw [cases.waits low high barred]
      exact ⟨rfl, Table.row_put_self _ _ _, rfl, rfl, fun f other => Table.row_put_of_ne _ (Ne.symm other) _⟩
  · exact congrArg Host.Outcome.next (takeConfirmed_of_none running
      (List.filter_eq_nil_iff.2 fun h mem shared => none h mem (of_decide_eq_true shared)))
  · have something : (s.poolEngine e).held.filter (fun h => w.shareConfirmed h.unitLine) ≠ [] :=
      List.ne_nil_of_mem (List.mem_filter.2 ⟨held, decide_eq_true done⟩)
    have reserve : (fun h : HeldLine => !sharedLine h.line) = fun h => decide (h.line.val < 8) := by
      funext h
      by_cases own : h.line.val < 8
      · simp [own, sharedLine]
      · simp [own, sharedLine, Nat.not_lt.1 own]
    refine congrArg Host.Outcome.next ((takeConfirmed_of_some running something).trans ?_)
    rw [reserve]
    rfl
  · change execLineRelease e s = _
    simp only [execLineRelease, idle]
  · change execLineRelease e s = _
    simp only [execLineRelease, running]
  · change execLineRelease e s = _
    simp only [execLineRelease, stopping]
    rw [tryStopEnd_of_not_ended (.inr owing)]
  · change execLineRelease e s = _
    simp only [execLineRelease, stopping]
    rw [tryStopEnd_of_ended stopping owes]

end

section
/-! PROOFS. The Aperture Units: the checks of their commands, opening and showing a record, revoking, and the
closing of a record (Chapter 5). -/

namespace Sys2Proof.Machine

variable {s t : State} {d : Domain} {p : Port} {l : Latched} {rest : List Latched} {r : Reply} {i : ApertureNo}
  {a : Table Word 8} {w : Word}

/-! ### An aperture command that names a domain (R90, R163) -/

theorem domainArg_of_eq (h : w.toNat = domainValue d) : domainArg w = some d := by
  cases d <;> simp [domainArg, h, domainValue]

theorem exists_domainValue {n : Nat} (h : n < 2) : ∃ d, n = domainValue d := by
  obtain rfl | rfl : n = 0 ∨ n = 1 := by omega
  · exact ⟨.a, rfl⟩
  · exact ⟨.b, rfl⟩

theorem apertureTakes_of_act {c : Command} {act : Domain → Act} (handed : s.wires.handed.get p = l :: rest)
    (code : commandOf l.code = some c) (aperture : c ∈ [Command.openAperture, .revokeAperture, .queryAperture])
    (domain : l.arg 0 = domainValue d) (acts : act d p l.args (s.setHanded p rest) = (r, t)) :
    apertureTakes c act p s = t.sendAnswer p ⟨l.cycle, r⟩ := by
  have named : domainArg (l.args.row 0) = some d := domainArg_of_eq domain
  have foreign : unitOwned l = false := by
    have : unitOwned l = (domainArg (l.args.row 0)).isNone := by
      simp only [List.mem_cons, List.not_mem_nil, or_false] at aperture
      obtain rfl | rfl | rfl := aperture <;> simp [unitOwned, code]
    rw [this, named]
    rfl
  simp only [apertureTakes, handed, code, if_true, named]
  exact ownerTakes_of_act handed code foreign acts

theorem exec_openAperture (handed : s.handedOver p 0x30 l rest) (domain : l.arg 0 = domainValue d)
    (acts : openApertureAct d p l.args (s.setHanded p rest) = (r, t)) :
    exec (.openAperture p) s = .next (t.sendAnswer p ⟨l.cycle, r⟩) :=
  congrArg Host.Outcome.next
    (apertureTakes_of_act handed.1 (by simp [commandOf, handed.2]) (by simp) domain acts)

theorem exec_revokeAperture (handed : s.handedOver p 0x31 l rest) (domain : l.arg 0 = domainValue d)
    (acts : revokeApertureAct d p l.args (s.setHanded p rest) = (r, t)) :
    exec (.revokeAperture p) s = .next (t.sendAnswer p ⟨l.cycle, r⟩) :=
  congrArg Host.Outcome.next
    (apertureTakes_of_act handed.1 (by simp [commandOf, handed.2]) (by simp) domain acts)

theorem exec_queryAperture (handed : s.handedOver p 0x32 l rest) (domain : l.arg 0 = domainValue d)
    (acts : queryApertureAct d p l.args (s.setHanded p rest) = (r, t)) :
    exec (.queryAperture p) s = .next (t.sendAnswer p ⟨l.cycle, r⟩) :=
  congrArg Host.Outcome.next
    (apertureTakes_of_act handed.1 (by simp [commandOf, handed.2]) (by simp) domain acts)

/-! ### The checks of R90 -/

section
variable {own : Bool}

theorem apertureCheck_of_offline (offline : s.online p = false) :
    apertureCheck s d p w own = .error .notOnline := by
  simp [apertureCheck, offline]

variable (online : s.online p = true)
include online

theorem apertureCheck_of_no_index (bad : 8 ≤ w.toNat) : apertureCheck s d p w own = .error .badAperture := by
  simp [apertureCheck, online, apertureArg, Nat.not_lt.2 bad]

theorem apertureCheck_of_other (index : w.toNat < 8) (other : d ≠ p) :
    apertureCheck s d p w true = .error .notOwner := by
  simp [apertureCheck, online, apertureArg, index, other]

theorem apertureCheck_of_index (index : w.toNat = i.val) (allowed : own = true → d = p) :
    apertureCheck s d p w own = .ok i := by
  have named : apertureArg w = some i := by simp [apertureArg, index]
  cases own
  · simp [apertureCheck, online, named]
  · simp [apertureCheck, online, named, allowed rfl]

end

/-- An aperture command that a check of R90 refuses. -/
theorem apertureActs_of_error {x : ResultCode} :
    (apertureCheck s d p (a.row 1) true = .error x →
      openApertureAct d p a s = (.plain x, s) ∧ revokeApertureAct d p a s = (.plain x, s)) ∧
    (apertureCheck s d p (a.row 1) false = .error x → queryApertureAct d p a s = (.plain x, s)) := by
  refine ⟨fun check => ⟨?_, ?_⟩, fun check => ?_⟩
  · simp [openApertureAct, check]
  · simp [revokeApertureAct, check]
  · simp [queryApertureAct, check]

/-! ### The field checks of OPEN_APERTURE (R91, Table 5-2) -/

/-- The check that fails, by its number. -/
def GrantFails (a : Table Word 8) (k : Nat) : Prop :=
  (k = 1 ∧ (a.row 2).toNat % 4096 ≠ 0) ∨ (k = 2 ∧ ((a.row 3).toNat = 0 ∨ 262144 < (a.row 3).toNat)) ∨
    (k = 3 ∧ 2 ^ 32 < (a.row 2).toNat + (a.row 3).toNat * 4096) ∨
    (k = 4 ∧ ((a.row 4).toNat = 0 ∨ 3 < (a.row 4).toNat)) ∨
    (k = 5 ∧ ((a.row 5).toNat = 0 ∨ 3 < (a.row 5).toNat))

theorem rightsArg_eq_none (bad : w.toNat = 0 ∨ 3 < w.toNat) : rightsArg w = none := by
  unfold rightsArg
  split
  all_goals first | rfl | omega

theorem granteesArg_eq_none (bad : w.toNat = 0 ∨ 3 < w.toNat) : granteesArg w = none := by
  unfold granteesArg
  split
  all_goals first | rfl | omega

theorem rightsArg_eq_some (good : ¬(w.toNat = 0 ∨ 3 < w.toNat)) :
    ∃ x, rightsArg w = some x ∧ x.value = w.toNat := by
  obtain h | h | h : w.toNat = 1 ∨ w.toNat = 2 ∨ w.toNat = 3 := by omega
  · exact ⟨.read, by simp [rightsArg, h], h.symm⟩
  · exact ⟨.write, by simp [rightsArg, h], h.symm⟩
  · exact ⟨.readWrite, by simp [rightsArg, h], h.symm⟩

theorem granteesArg_eq_some (good : ¬(w.toNat = 0 ∨ 3 < w.toNat)) :
    ∃ x, granteesArg w = some x ∧ x.value = w.toNat := by
  obtain h | h | h : w.toNat = 1 ∨ w.toNat = 2 ∨ w.toNat = 3 := by omega
  · exact ⟨.self, by simp [granteesArg, h], h.symm⟩
  · exact ⟨.peer, by simp [granteesArg, h], h.symm⟩
  · exact ⟨.both, by simp [granteesArg, h], h.symm⟩

/-- A check that passes is left behind, and one that fails ends the checks. -/
theorem must_bind_eq {α : Type} (k : Nat) (b : Bool) (f : Unit → Except Nat α) :
    (must k b >>= f) = if b = true then f () else .error k := by
  cases b <;> rfl

theorem aligned_iff {n : Nat} : (n % Config.pageBytes == 0) = true ↔ n % 4096 = 0 := beq_iff_eq

theorem sized_iff {n : Nat} :
    (decide (1 ≤ n) && decide (n ≤ Config.pagesMax)) = true ↔ ¬(n = 0 ∨ 262144 < n) := by
  rw [Bool.and_eq_true, decide_eq_true_iff, decide_eq_true_iff]
  change _ ∧ n ≤ 262144 ↔ _
  omega

theorem inside_iff {m n : Nat} :
    decide (m + n * Config.pageBytes ≤ 4294967296) = true ↔ ¬2 ^ 32 < m + n * 4096 := by
  rw [decide_eq_true_iff]
  change m + n * 4096 ≤ 4294967296 ↔ _
  omega

/-- The grant of a block that passes. -/
structure GrantFrom (a : Table Word 8) (g : Grant) : Prop where
  base : g.base = a.row 2
  pages : g.pages = (a.row 3).toNat
  rights : g.rights.value = (a.row 4).toNat
  grantees : g.grantees.value = (a.row 5).toNat

/-- The first check that fails is answered. -/
theorem grantArg_of_first_failing {k : Nat} (fails : GrantFails a k) (first : ∀ m < k, ¬GrantFails a m) :
    grantArg a = .error k := by
  have aligned (h : 1 < k) : (a.row 2).toNat % 4096 = 0 :=
    not_not.1 fun bad => first 1 h (.inl ⟨rfl, bad⟩)
  have sized (h : 2 < k) : ¬((a.row 3).toNat = 0 ∨ 262144 < (a.row 3).toNat) := fun bad =>
    first 2 h (.inr (.inl ⟨rfl, bad⟩))
  have inside (h : 3 < k) : ¬2 ^ 32 < (a.row 2).toNat + (a.row 3).toNat * 4096 := fun bad =>
    first 3 h (.inr (.inr (.inl ⟨rfl, bad⟩)))
  have right (h : 4 < k) : ¬((a.row 4).toNat = 0 ∨ 3 < (a.row 4).toNat) := fun bad =>
    first 4 h (.inr (.inr (.inr (.inl ⟨rfl, bad⟩))))
  unfold grantArg
  simp only [must_bind_eq]
  obtain ⟨rfl, bad⟩ | ⟨rfl, bad⟩ | ⟨rfl, bad⟩ | ⟨rfl, bad⟩ | ⟨rfl, bad⟩ := fails
  · rw [if_neg (mt aligned_iff.1 bad)]
  · rw [if_pos (aligned_iff.2 (aligned (by decide))), if_neg (fun good => sized_iff.1 good bad)]
  · rw [if_pos (aligned_iff.2 (aligned (by decide))), if_pos (sized_iff.2 (sized (by decide))),
      if_neg (fun good => inside_iff.1 good bad)]
  · rw [if_pos (aligned_iff.2 (aligned (by decide))), if_pos (sized_iff.2 (sized (by decide))),
      if_pos (inside_iff.2 (inside (by decide))), rightsArg_eq_none bad]
    rfl
  · obtain ⟨x, rights, -⟩ := rightsArg_eq_some (right (by decide))
    rw [if_pos (aligned_iff.2 (aligned (by decide))), if_pos (sized_iff.2 (sized (by decide))),
      if_pos (inside_iff.2 (inside (by decide))), rights, granteesArg_eq_none bad]
    rfl

theorem grantArg_of_passes (passes : ∀ k, ¬GrantFails a k) : ∃ g, grantArg a = .ok g ∧ GrantFrom a g := by
  have aligned : (a.row 2).toNat % 4096 = 0 := not_not.1 fun bad => passes 1 (.inl ⟨rfl, bad⟩)
  have sized : ¬((a.row 3).toNat = 0 ∨ 262144 < (a.row 3).toNat) := fun bad => passes 2 (.inr (.inl ⟨rfl, bad⟩))
  have inside : ¬2 ^ 32 < (a.row 2).toNat + (a.row 3).toNat * 4096 := fun bad =>
    passes 3 (.inr (.inr (.inl ⟨rfl, bad⟩)))
  obtain ⟨x, rights, code⟩ := rightsArg_eq_some (w := a.row 4) fun bad =>
    passes 4 (.inr (.inr (.inr (.inl ⟨rfl, bad⟩))))
  obtain ⟨y, grantees, code'⟩ := granteesArg_eq_some (w := a.row 5) fun bad =>
    passes 5 (.inr (.inr (.inr (.inr ⟨rfl, bad⟩))))
  refine ⟨⟨a.row 2, (a.row 3).toNat, x, y⟩, ?_, rfl, rfl, code, code'⟩
  unfold grantArg
  simp only [must_bind_eq]
  rw [if_pos (aligned_iff.2 aligned), if_pos (sized_iff.2 sized), if_pos (inside_iff.2 inside), rights, grantees]
  rfl

/-! ### Opening a record (R92) -/

section
variable (check : apertureCheck s d p (a.row 1) true = .ok i)
include check

theorem openApertureAct_of_in_use (used : (s.aperture d i).state ≠ .closed) :
    openApertureAct d p a s = (.plain .inUse, s) := by
  simp [openApertureAct, check, used]

variable (closed : (s.aperture d i).state = .closed)
include closed

theorem openApertureAct_of_bad_field {k : Nat} (fails : grantArg a = .error k) :
    openApertureAct d p a s = (.badField k, s) := by
  simp [openApertureAct, check, closed, fails]

theorem openApertureAct_of_passes {g : Grant} (passes : grantArg a = .ok g) :
    openApertureAct d p a s =
      (.withRes1 .ok ((s.aperture d i).generation + 1).toNat, s.openApertureAt d i g) := by
  simp [openApertureAct, check, closed, passes]

end

theorem Grantees.toPeer_iff {g : Grantees} : g.toPeer = true ↔ g ≠ .self := by
  cases g <;> decide

/-- A postings record with a notice for the peer when it is a grantee. -/
def postPeer (postings : PerPort (List SystemNotice)) (d : Domain) (g : Grantees) (n : SystemNotice) :
    PerPort (List SystemNotice) :=
  if g = .self then postings else postings.set d.peer (postings.get d.peer ++ [n])

theorem openApertureAt_eq (s : State) (d : Domain) (i : ApertureNo) (g : Grant) :
    s.openApertureAt d i g =
      (s.setWires
        { s.wires with
          postings :=
            postPeer s.wires.postings d g.grantees
              (.apertureOffered d i ((s.aperture d i).generation + 1) g.base g.pages g.rights) }).setAperture d i
        { s.aperture d i with
          state := .open, grant := some g, generation := (s.aperture d i).generation + 1 } := by
  unfold State.openApertureAt postPeer
  dsimp only
  by_cases own : g.grantees = .self
  · rw [if_neg (fun peer => Grantees.toPeer_iff.1 peer own), if_pos own]
    rfl
  · rw [if_pos (Grantees.toPeer_iff.2 own), if_neg own]
    rfl

/-! ### The views of QUERY_APERTURE (R96, Tables 5-3 and 10-8) -/

section
variable {x : Aperture}

theorem ApertureState.value_lt (st : ApertureState) : st.value < 2 ^ 2 := by cases st <;> decide

theorem Rights.value_lt (r : Rights) : r.value < 2 ^ 2 := by cases r <;> decide

theorem Grantees.value_lt (g : Grantees) : g.value < 2 ^ 2 := by cases g <;> decide

theorem stateWord_packs (x : Aperture) :
    Packs (place 0 x.state.value ||| place 2 x.generation.toNat ||| place 10 1)
      (x.state.value + 2 ^ 2 * x.generation.toNat + 2 ^ 10 * 1) (2 + 8 + 1) :=
  ((packs_place x.state.value_lt (by decide)).or 8 x.generation.isLt (by decide)).or 1 (v := 1) (by decide)
    (by decide)

theorem ownWord_packs (users : x.users ≤ 16) :
    Packs
      (place 0 x.state.value ||| place 2 x.generation.toNat ||| place 10 1 ||| place 11 x.users ||| place 16 1)
      (x.state.value + 2 ^ 2 * x.generation.toNat + 2 ^ 10 * 1 + 2 ^ 11 * x.users + 2 ^ 16 * 1) (11 + 5 + 1) :=
  ((stateWord_packs x).or 5 (v := x.users) (by omega) (by decide)).or 1 (v := 1) (by decide) (by decide)

theorem apertureOwnView_of_closed (never : x.grant = none) :
    apertureOwnView x =
      results
        (place 0 x.state.value ||| place 2 x.generation.toNat ||| place 10 1 ||| place 11 x.users
          ||| place 16 1) 0 0 0 := by
  simp [apertureOwnView, never]

theorem apertureOwnView_of_grant {g : Grant} (grant : x.grant = some g) :
    apertureOwnView x =
      results
        (place 0 x.state.value ||| place 2 x.generation.toNat ||| place 10 1 ||| place 11 x.users
          ||| place 16 1 ||| place 17 g.rights.value ||| place 19 g.grantees.value ||| place 21 1
          ||| place 22 1) g.base (place 0 g.pages) 0 := by
  simp [apertureOwnView, grant]

theorem toNat_ownGrantWord {g : Grant} (users : x.users ≤ 16) :
    (place 0 x.state.value ||| place 2 x.generation.toNat ||| place 10 1 ||| place 11 x.users
      ||| place 16 1 ||| place 17 g.rights.value ||| place 19 g.grantees.value ||| place 21 1
      ||| place 22 1).toNat =
      x.state.value + 2 ^ 2 * x.generation.toNat + 2 ^ 10 * 1 + 2 ^ 11 * x.users + 2 ^ 16 * 1
        + 2 ^ 17 * g.rights.value + 2 ^ 19 * g.grantees.value + 2 ^ 21 * 1 + 2 ^ 22 * 1 :=
  (((((ownWord_packs users).or 2 g.rights.value_lt (by decide)).or 2 g.grantees.value_lt (by decide)).or 1
    (v := 1) (by decide) (by decide)).or 1 (v := 1) (by decide) (by decide)).value

theorem aperturePeerView_of_grantee {g : Grant} (grant : x.grant = some g) (used : x.state ≠ .closed)
    (peer : g.grantees ≠ .self) :
    aperturePeerView x =
      results
        (place 0 x.state.value ||| place 2 x.generation.toNat ||| place 10 1 ||| place 17 g.rights.value
          ||| place 22 1) g.base (place 0 g.pages) 0 := by
  simp [aperturePeerView, grant, used, Grantees.toPeer_iff.2 peer]

theorem toNat_peerGrantWord (x : Aperture) (g : Grant) :
    (place 0 x.state.value ||| place 2 x.generation.toNat ||| place 10 1 ||| place 17 g.rights.value
      ||| place 22 1).toNat =
      x.state.value + 2 ^ 2 * x.generation.toNat + 2 ^ 10 * 1 + 2 ^ 17 * g.rights.value + 2 ^ 22 * 1 :=
  (((((stateWord_packs x).mono (show 11 ≤ 17 by decide)).or 2 g.rights.value_lt (by decide)).mono
    (show 19 ≤ 22 by decide)).or 1 (v := 1) (by decide) (by decide)).value

theorem aperturePeerView_of_other
    (other : x.state = .closed ∨ x.grant = none ∨ ∃ g, x.grant = some g ∧ g.grantees = .self) :
    aperturePeerView x = results (place 0 x.state.value) 0 0 0 := by
  unfold aperturePeerView
  split
  · next g grant =>
    refine if_neg fun ⟨used, peer⟩ => ?_
    obtain closed | never | ⟨g', grant', own⟩ := other
    · exact used closed
    · rw [never] at grant
      cases grant
    · rw [grant] at grant'
      cases grant'
      exact Grantees.toPeer_iff.1 peer own
  · rfl

theorem toNat_place_pages {n : Nat} (bound : n ≤ 262144) : (place 0 n).toNat = n := by
  rw [toNat_place_zero, Nat.mod_eq_of_lt (by omega)]

end

theorem queryApertureAct_of_index (check : apertureCheck s d p (a.row 1) false = .ok i) :
    queryApertureAct d p a s =
      (⟨.ok, if d = p then apertureOwnView (s.aperture d i) else aperturePeerView (s.aperture d i)⟩, s) := by
  simp [queryApertureAct, check]

/-! ### Closing a record (R94, R95, R103, R104) -/

/-- The notices of a closing (R95). -/
def closingPostings (postings : PerPort (List SystemNotice)) (d : Domain) (i : ApertureNo) (x : Aperture) :
    PerPort (List SystemNotice) :=
  match x.grant with
  | some g =>
    if g.grantees = .self then postings.set d (postings.get d ++ [.revokeDone d i x.generation])
    else
      (postings.set d (postings.get d ++ [.revokeDone d i x.generation])).set d.peer
        (postings.get d.peer ++ [.apertureWithdrawn d i x.generation])
  | none => postings.set d (postings.get d ++ [.revokeDone d i x.generation])

theorem ne_peer (p : Port) : p ≠ p.peer := by cases p <;> decide

theorem closeAperture_eq (s : State) (d : Domain) (i : ApertureNo) :
    s.closeAperture d i =
      (s.setWires
        { s.wires with
          postings := closingPostings s.wires.postings d i (s.aperture d i) }).setAperture d i
        { s.aperture d i with state := .closed } := by
  unfold State.closeAperture closingPostings
  dsimp only
  cases (s.aperture d i).grant with
  | none => rfl
  | some g =>
    dsimp only
    by_cases own : g.grantees = .self
    · rw [if_neg (fun peer => Grantees.toPeer_iff.1 peer own), if_pos own]
      rfl
    · rw [if_pos (Grantees.toPeer_iff.2 own), if_neg own,
        ← PerPort.get_set_of_ne s.wires.postings (ne_peer d)
          (s.wires.postings.get d ++ [.revokeDone d i (s.aperture d i).generation])]
      rfl

theorem setAperture_setAperture (s : State) (d : Domain) (i : ApertureNo) (x y : Aperture) :
    (s.setAperture d i x).setAperture d i y = s.setAperture d i y := by
  simp [State.setAperture, State.setApertureUnit, State.apertureUnit]

section
variable (check : apertureCheck s d d (a.row 1) true = .ok i)
include check

theorem revokeApertureAct_of_wrong_state (wrong : (s.aperture d i).state ≠ .open) :
    revokeApertureAct d d a s = (.plain .wrongState, s) := by
  simp [revokeApertureAct, check, wrong]

variable (isOpen : (s.aperture d i).state = .open)
include isOpen

theorem revokeApertureAct_of_unused (unused : (s.aperture d i).users = 0) :
    revokeApertureAct d d a s =
      (.withRes1 .ok (s.aperture d i).generation.toNat, s.closeAperture d i) := by
  simp [revokeApertureAct, check, isOpen, unused, State.revoke]

theorem revokeApertureAct_of_used (used : 0 < (s.aperture d i).users) :
    revokeApertureAct d d a s =
      (.withRes1 .accepted (s.aperture d i).generation.toNat,
        s.setAperture d i { s.aperture d i with state := .draining }) := by
  simp [revokeApertureAct, check, isOpen, used.ne', State.revoke]

end

theorem exec_userEnd {words : List ApertureWord} (oldest : s.wires.aperture.get d = .userEnd i :: words) :
    exec (.userEnd d) s = .next ((s.setApertureWords d words).endUser d i) := by
  change execUserEnd d s = _
  simp only [execUserEnd, oldest]

theorem endUser_of_more (more : ¬((s.aperture d i).state = .draining ∧ (s.aperture d i).users - 1 = 0)) :
    s.endUser d i = s.setAperture d i { s.aperture d i with users := (s.aperture d i).users - 1 } :=
  if_neg more

/-- The record closed by its last end. -/
theorem endUser_of_last (draining : (s.aperture d i).state = .draining) (last : (s.aperture d i).users = 1) :
    s.endUser d i =
      ((s.setWires
        { s.wires with
          postings := closingPostings s.wires.postings d i (s.aperture d i) }).setAperture d i
        { s.aperture d i with state := .closed, users := 0 }).reportApertures d := by
  have record : (s.setAperture d i { s.aperture d i with users := (s.aperture d i).users - 1 }).aperture d i =
      { s.aperture d i with users := (s.aperture d i).users - 1 } := by
    rw [aperture_setAperture, if_pos ⟨rfl, rfl⟩]
  have closes := closeAperture_eq (s.setAperture d i { s.aperture d i with users := (s.aperture d i).users - 1 }) d i
  rw [record, last] at closes
  have ends : s.endUser d i =
      ((s.setAperture d i { s.aperture d i with users := (s.aperture d i).users - 1 }).closeAperture d
        i).reportApertures d := if_pos ⟨draining, by rw [last]⟩
  rw [ends, last, closes]
  exact congrArg (State.reportApertures · d) (setAperture_setAperture
    (s.setWires { s.wires with postings := closingPostings s.wires.postings d i (s.aperture d i) }) d i _ _)

theorem allClosed_iff : s.allClosed d = true ↔ ∀ j, (s.aperture d j).state = .closed := by
  simp [State.allClosed]

theorem reportApertures_of_held
    (held : (s.apertureUnit d).clearing = false ∨ ∃ j, (s.aperture d j).state ≠ .closed) :
    s.reportApertures d = s := by
  refine if_neg fun due => ?_
  obtain ⟨clearing, all⟩ := Bool.and_eq_true_iff.1 due
  obtain off | ⟨j, used⟩ := held
  · rw [off] at clearing
    cases clearing
  · exact used (allClosed_iff.1 all j)

theorem reportApertures_of_all_closed (clearing : (s.apertureUnit d).clearing = true)
    (all : ∀ j, (s.aperture d j).state = .closed) :
    s.reportApertures d =
      (s.setApertureUnit d { s.apertureUnit d with clearing := false }).sendField d .apertures :=
  if_pos (Bool.and_eq_true_iff.2 ⟨clearing, allClosed_iff.2 all⟩)

end Sys2Proof.Machine

open Sys2Proof Sys2Proof.Machine

/-- Settles O46: the checks in order, the record opened, and the views. -/
theorem aperturesOpenAndShow : Obligations.AperturesOpenAndShow := by
  refine ⟨fun s p l rest handed => ?_, fun s p l rest handed d domain => ?_⟩
  · intro d refuse mine bad
    have refused {e : Domain} {r : Reply} (domain : l.arg 0 = domainValue e)
        (acts : openApertureAct e p l.args (s.setHanded p rest) = (r, s.setHanded p rest)) : refuse r :=
      exec_openAperture handed domain acts
    refine ⟨fun offline named => ?_, fun online named index => ?_, fun i online index => ⟨fun named other => ?_,
      fun own used => ?_, fun own closed k fails first => ?_, fun own closed passes => ?_⟩⟩
    · obtain ⟨e, domain⟩ := exists_domainValue named
      exact refused domain (apertureActs_of_error.1
        (apertureCheck_of_offline (s := s.setHanded p rest) offline)).1
    · obtain ⟨e, domain⟩ := exists_domainValue named
      exact refused domain (apertureActs_of_error.1
        (apertureCheck_of_no_index (s := s.setHanded p rest) online index)).1
    · obtain ⟨e, domain⟩ := exists_domainValue named
      have foreign : e ≠ p := fun same => other (domain.trans (congrArg domainValue same))
      exact refused domain (apertureActs_of_error.1
        (apertureCheck_of_other (s := s.setHanded p rest) online (index.trans_lt i.isLt) foreign)).1
    · exact refused own (openApertureAct_of_in_use (s := s.setHanded p rest)
        (apertureCheck_of_index online index fun _ => rfl) used)
    · exact refused own (openApertureAct_of_bad_field (s := s.setHanded p rest)
        (apertureCheck_of_index online index fun _ => rfl) closed (grantArg_of_first_failing fails first))
    · obtain ⟨g, loads, fields⟩ := grantArg_of_passes (a := l.args) passes
      have acts := openApertureAct_of_passes (s := s.setHanded p rest)
        (apertureCheck_of_index online index fun _ => rfl) closed loads
      refine ⟨g, fields.base, fields.pages, fields.rights, fields.grantees, ?_⟩
      rw [openApertureAt_eq, Reply.withRes1, place_zero] at acts
      exact exec_openAperture handed own acts
  · refine ⟨fun offline => ?_, fun online index => ?_, fun i online index => ?_⟩
    · exact exec_queryAperture handed domain (apertureActs_of_error.2 (apertureCheck_of_offline offline))
    · exact exec_queryAperture handed domain (apertureActs_of_error.2 (apertureCheck_of_no_index online index))
    · have acts := queryApertureAct_of_index (s := s.setHanded p rest) (d := d) (p := p) (a := l.args) (i := i)
        (apertureCheck_of_index online index nofun)
      rw [show (s.setHanded p rest).aperture d i = s.aperture d i from rfl] at acts
      refine ⟨_, exec_queryAperture handed domain acts, fun users pages => ⟨fun own never => ?_,
        fun own g grant => ?_, fun other g grant used peer => ?_, fun other hidden => ?_⟩⟩
      · rw [if_pos own.symm, apertureOwnView_of_closed never]
        refine ⟨(ownWord_packs users).value.trans ?_, rfl, rfl, rfl⟩
        omega
      · rw [if_pos own.symm, apertureOwnView_of_grant grant]
        refine ⟨(toNat_ownGrantWord users).trans ?_, rfl, toNat_place_pages (pages g grant), rfl⟩
        omega
      · rw [if_neg (Ne.symm other),
          aperturePeerView_of_grantee grant used peer]
        refine ⟨(toNat_peerGrantWord _ g).trans ?_, rfl, toNat_place_pages (pages g grant), rfl⟩
        omega
      · rw [if_neg (Ne.symm other), aperturePeerView_of_other hidden]
        exact ⟨(packs_place (s.aperture d i).state.value_lt (by decide)).value, rfl, rfl, rfl⟩

/-- Settles O47: the checks, the withdrawal by the users, and the last end. -/
theorem aperturesDrainAndClose : Obligations.AperturesDrainAndClose := by
  refine ⟨fun s p l rest handed => ?_, fun s d i => ?_⟩
  · intro refuse named
    obtain ⟨e, domain⟩ := exists_domainValue named
    refine ⟨fun offline => ?_, fun online index => ?_, fun online index other => ?_⟩
    · exact exec_revokeAperture handed domain (apertureActs_of_error.1
        (apertureCheck_of_offline (s := s.setHanded p rest) offline)).2
    · exact exec_revokeAperture handed domain (apertureActs_of_error.1
        (apertureCheck_of_no_index (s := s.setHanded p rest) online index)).2
    · have foreign : e ≠ p := fun same => other (domain.trans (congrArg domainValue same))
      exact exec_revokeAperture handed domain (apertureActs_of_error.1
        (apertureCheck_of_other (s := s.setHanded p rest) online index foreign)).2
  · intro x notices closed
    have posted (w : Wires) : notices w = closingPostings w.postings d i x := rfl
    refine ⟨fun l rest handed online domain index => ?_, fun rest oldest users => ?_⟩
    · have check : apertureCheck (s.setHanded d rest) d d (l.args.row 1) true = .ok i :=
        apertureCheck_of_index online index fun _ => rfl
      refine ⟨fun wrong => ?_, fun isOpen unused => ?_, fun isOpen used => ?_⟩
      · exact exec_revokeAperture handed domain (revokeApertureAct_of_wrong_state check wrong)
      · have acts := revokeApertureAct_of_unused check isOpen unused
        rw [closeAperture_eq, Reply.withRes1, place_zero] at acts
        rw [exec_revokeAperture handed domain acts]
        have same : ({ x with state := .closed } : Aperture) = { x with state := .closed, users := 0 } := by
          rw [← unused]
        refine congrArg Host.Outcome.next ?_
        change _ = State.setAperture _ d i { x with state := .closed, users := 0 }
        rw [← same]
        rfl
      · have acts := revokeApertureAct_of_used check isOpen used
        rw [Reply.withRes1, place_zero] at acts
        exact exec_revokeAperture handed domain acts
    · intro u
      refine ⟨fun more => ?_, fun draining last => ?_⟩
      · rw [exec_userEnd oldest]
        refine congrArg Host.Outcome.next (endUser_of_more (s := u) fun ⟨draining, last⟩ => more ⟨draining, ?_⟩)
        change x.users - 1 = 0 at last
        omega
      · have ends : exec (.userEnd d) s = .next ((closed u).reportApertures d) := by
          rw [exec_userEnd oldest]
          exact congrArg Host.Outcome.next (endUser_of_last (s := u) draining last)
        have record (j : ApertureNo) : (closed u).aperture d j =
            if i = j then { x with state := .closed, users := 0 } else s.aperture d j := by
          refine (aperture_setAperture _ _ _ _ _ _).trans (if_congr (and_iff_right rfl) rfl rfl)
        have unit : ((closed u).apertureUnit d).clearing = (s.apertureUnit d).clearing := by
          change ((State.setApertureUnit _ d _).apertureUnit d).clearing = _
          rw [apertureUnit_setApertureUnit, if_pos rfl]
          rfl
        refine ⟨fun held => ?_, fun clearing all => ?_⟩
        · rw [ends, reportApertures_of_held]
          refine held.imp (fun off => ?_) fun ⟨j, other, used⟩ => ⟨j, ?_⟩
          · rw [unit, off]
          · rw [record, if_neg (Ne.symm other)]
            exact used
        · rw [ends, reportApertures_of_all_closed]
          · refine congrArg Host.Outcome.next ?_
            simp only [State.setApertureUnit, closed, State.setAperture, PerPort.set_set]
            rfl
          · rw [unit, clearing]
          · intro j
            rw [record]
            split
            · rfl
            · next other => exact all j (Ne.symm other)

end

section
/-! PROOFS. Reports taken at the Channel Table: fault messages, unit ends and stops, with the notice they
offer and the next state of the channel (R16–R23, R66, R73, R137). -/

namespace Sys2Proof.Machine

variable {s t : State} {ch : ChannelNo} {p : Port} {d : Loaded} {r : Progress} {o : Origin} {c : Channel}

/-! ### Writes of records that stand in no queue -/

theorem writeChannel_of_not_ready (before : (s.channel ch).state ≠ .ready) (after : c.eligible = false) :
    s.writeChannel ch c = s.setChannel ch c :=
  writeChannel_of_eligible_eq s ((Channel.eligible_of_not_ready before).trans after.symm)

theorem setChannel_setChannel (s : State) (ch : ChannelNo) (c e : Channel) :
    (s.setChannel ch c).setChannel ch e = s.setChannel ch e := by
  simp [State.setChannel]

/-! ### What a report sends (R16, R18, R22) -/

/-- The word to the line that served the unit, when a line did. -/
def Channel.lineWords (c : Channel) (ch : ChannelNo) (ws : List LineWord) : List LineWord :=
  match c.origin, c.servedLine with
  | some .line, some n => ws ++ [⟨n, ch⟩]
  | _, _ => ws

theorem lineWords_of_origin {ws : List LineWord} :
    c.origin = some o →
      c.lineWords ch ws =
        match o, c.servedLine with
        | .line, some n => ws ++ [⟨n, ch⟩]
        | _, _ => ws := by
  intro origin
  rw [Channel.lineWords, origin]
  cases o <;> cases c.servedLine <;> rfl

theorem acknowledge_eq (s : State) (ch : ChannelNo) :
    s.acknowledge ch = s.setWires { s.wires with acks := (s.channel ch).lineWords ch s.wires.acks } := by
  unfold State.acknowledge Channel.lineWords
  dsimp only
  rcases (s.channel ch).origin with _ | _ | _ <;> cases (s.channel ch).servedLine <;> rfl

theorem returnLine_eq (s : State) (ch : ChannelNo) :
    s.returnLine ch =
      s.setWires { s.wires with returns := (s.channel ch).lineWords ch s.wires.returns } := by
  unfold State.returnLine Channel.lineWords
  dsimp only
  rcases (s.channel ch).origin with _ | _ | _ <;> cases (s.channel ch).servedLine <;> rfl

theorem LinkCondition.fires_iff {k : LinkCondition} {left : Nat} :
    k.fires left = true ↔ k = .eachUnit ∨ left = 0 := by
  cases k <;> simp [fires]

/-- The delivery of a link whose condition holds. -/
def linkWords (ch : ChannelNo) (p : Port) (link : Option Link) (left : Nat) (ws : List LinkWord) : List LinkWord :=
  match link with
  | some k => if k.condition = .eachUnit ∨ left = 0 then ws ++ [⟨ch, p, k.target⟩] else ws
  | none => ws

theorem fireLink_eq (owner : (s.channel ch).owner = some p) (prog : Program) (left : Nat) :
    s.fireLink ch prog left =
      s.setWires { s.wires with links := linkWords ch p prog.link left s.wires.links } := by
  unfold State.fireLink linkWords
  rw [owner]
  cases prog.link with
  | none => rfl
  | some k =>
    dsimp only
    by_cases fires : k.condition = .eachUnit ∨ left = 0
    · rw [if_pos (LinkCondition.fires_iff.2 fires), if_pos fires]
      rfl
    · rw [if_neg (mt LinkCondition.fires_iff.1 fires), if_neg fires]
      rfl

/-! ### The notice offered, and the next state (R19, R137) -/

section
variable {next : AfterState} {n : ChannelNotice} {notice : Option ChannelNotice}

theorem enterNext_of_record (record : s.channel ch = c) (next : AfterState) :
    s.enterNext ch next = (s.writeChannel ch (c.settled next)).channelAble ch := by
  rw [State.enterNext, record]

theorem concludeUnit_of_silent (owner : (s.channel ch).owner = some p)
    (silent : notice = none ∨ s.online p = false) :
    s.concludeUnit ch notice next = s.enterNext ch next := by
  unfold State.concludeUnit
  rw [owner]
  obtain rfl | offline := silent
  · rfl
  · cases notice with
    | none => rfl
    | some n => simp [offline]

section
variable (owner : (s.channel ch).owner = some p) (online : s.online p = true)
include owner online

theorem concludeUnit_of_room (room : (s.noticeUnit p).queue.length < 28) :
    s.concludeUnit ch (some n) next =
      (s.setNoticeUnit p
        { s.noticeUnit p with
          queue := (s.noticeUnit p).queue ++ [⟨.channel n, (s.noticeUnit p).sequence, 1⟩]
          sequence := (s.noticeUnit p).sequence + 1 }).enterNext ch next := by
  unfold State.concludeUnit
  rw [owner]
  dsimp only
  rw [online]
  exact (if_neg (by simp)).trans (if_pos room)

theorem concludeUnit_of_full (full : 28 ≤ (s.noticeUnit p).queue.length) :
    s.concludeUnit ch (some n) next = s.park ch p n next := by
  unfold State.concludeUnit
  rw [owner]
  dsimp only
  rw [online]
  exact (if_neg (by simp)).trans (if_neg (Nat.not_lt.2 full))

end

/-- A channel that is not READY parks its notice and goes POSTING. -/
theorem park_of_not_ready (busy : (s.channel ch).state ≠ .ready) :
    s.park ch p n next =
      ((s.setNoticeUnit p
        { s.noticeUnit p with parking := (s.noticeUnit p).parking ++ [⟨ch, n⟩] }).setChannel ch
        { s.channel ch with
          state := .posting, afterState := some next, origin := none, servedLine := none }).channelAble ch := by
  unfold State.park
  dsimp only
  refine congrArg (State.channelAble · ch) ?_
  exact writeChannel_of_not_ready (s := s.setNoticeUnit p
    { s.noticeUnit p with parking := (s.noticeUnit p).parking ++ [⟨ch, n⟩] }) busy
    (Channel.eligible_of_not_ready (by simp))

end

/-! ### The oldest report about a channel (R50) -/

theorem takeReport_of_first {before after : List EngineReport} {b : ReportBody}
    (reports : s.wires.reports = before ++ ⟨ch, b⟩ :: after) (first : ∀ x ∈ before, x.channel ≠ ch) :
    s.takeReport ch = some (b, s.setWires { s.wires with reports := before ++ after }) := by
  have takes : takeFirst (fun w => w.channel = ch) s.wires.reports = some (⟨ch, b⟩, before ++ after) := by
    rw [reports]
    exact takeFirst_append (by simpa using first) (by simp)
  rw [State.takeReport, takes]

theorem exec_faultMessage (report : s.takeReport ch = some (.faulted, t)) :
    exec (.faultMessage ch) s =
      .next
        (if (t.channel ch).state = .running then
          t.setChannel ch { t.channel ch with state := .stopping }
        else t) := by
  change execFaultMessage ch s = _
  simp only [execFaultMessage, report]
  split
  · next running =>
    rw [writeChannel_of_not_ready (by simp [running]) (Channel.eligible_of_not_ready (by simp))]
  · rfl

theorem exec_unitEndReport_of_running (report : s.takeReport ch = some (.unitEnd r o, t))
    (running : (t.channel ch).state = .running) :
    exec (.unitEndReport ch) s = .next (t.unitEnd ch r o) := by
  change execUnitEndReport ch s = _
  simp only [execUnitEndReport, report, running]

theorem exec_unitEndReport_of_stopping (report : s.takeReport ch = some (.unitEnd r o, t))
    (stopping : (t.channel ch).state = .stopping) :
    exec (.unitEndReport ch) s = .next (t.stopUnit ch r .abort) := by
  change execUnitEndReport ch s = _
  simp only [execUnitEndReport, report, stopping]

theorem exec_stopReport {k : StopCause} (report : s.takeReport ch = some (.stop r k, t))
    (stopping : (t.channel ch).state = .stopping) :
    exec (.stopReport ch) s = .next (t.stopUnit ch r k) := by
  change execStopReport ch s = _
  simp only [execStopReport, report, stopping, if_true]

/-! ### Unit ends (R16–R19) -/

/-- The state once the progress is written, the line acknowledged and the link fired. -/
def State.unitWritten (s : State) (ch : ChannelNo) (p : Port) (d : Loaded) (r : Progress) : State :=
  { s with
    channels := s.channels.put ch { s.channel ch with loaded := some (d.advance r) }
    wires :=
      { s.wires with
        acks := (s.channel ch).lineWords ch s.wires.acks
        links := linkWords ch p d.program.link (d.advance r).remaining s.wires.links } }

theorem unitEnd_eq (running : (s.channel ch).state = .running) (loaded : (s.channel ch).loaded = some d)
    (owner : (s.channel ch).owner = some p) (r : Progress) (o : Origin) :
    s.unitEnd ch r o =
      (s.unitWritten ch p d r).concludeUnit ch
        (unitNotice ch d.program.policy (d.advance r).remaining r.done (s.channel ch).credit o)
        (if (d.advance r).remaining = 0 then .idle else .ready) := by
  have busy : (s.channel ch).state ≠ .ready := by simp [running]
  have written : s.writeChannel ch { s.channel ch with loaded := some (d.advance r) } =
      s.setChannel ch { s.channel ch with loaded := some (d.advance r) } :=
    writeChannel_of_not_ready busy (Channel.eligible_of_not_ready (by simp [running]))
  have record : (s.setChannel ch { s.channel ch with loaded := some (d.advance r) }).channel ch =
      { s.channel ch with loaded := some (d.advance r) } := Table.row_put_self _ _ _
  simp only [State.unitEnd, loaded, written, acknowledge_eq, record]
  rw [fireLink_eq (p := p)]
  · rfl
  · exact (congrArg Channel.owner record).trans owner

/-! ### Stops (R22, R23) -/

/-- The state once the progress of a stop is written and its line returned. -/
def State.stopWritten (s : State) (ch : ChannelNo) (d : Loaded) (r : Progress) (k : StopCause) : State :=
  { s with
    channels := s.channels.put ch ((s.channel ch).stopped (d.advance r) k)
    wires := { s.wires with returns := (s.channel ch).lineWords ch s.wires.returns } }

theorem stopUnit_of_teardown {k : StopCause} (owner : (s.channel ch).owner = some p)
    (torn : k = .teardown ∨ s.tableClearing.get p = true) :
    s.stopUnit ch r k = (s.freeChannel ch).reportChannels p := by
  have due : k = .teardown ∨ s.tearingDown ch = true := by
    simpa [State.tearingDown, owner] using torn
  rw [State.stopUnit, if_pos due, State.freeStopped, owner]

theorem stopUnit_eq {k : StopCause} (stopping : (s.channel ch).state = .stopping)
    (owner : (s.channel ch).owner = some p) (loaded : (s.channel ch).loaded = some d)
    (origin : (s.channel ch).origin = some o) (other : k ≠ .teardown) (kept : s.tableClearing.get p = false) :
    s.stopUnit ch r k =
      (s.stopWritten ch d r k).concludeUnit ch
        (some (stopNotice ch k (d.advance r).remaining r.done o).1)
        (stopNotice ch k (d.advance r).remaining r.done o).2 := by
  have not_due : ¬(k = .teardown ∨ s.tearingDown ch = true) := by
    simp [State.tearingDown, owner, kept, other]
  have busy : (s.channel ch).state ≠ .ready := by simp [stopping]
  have written (u : State) (record : u.channel ch = s.channel ch) :
      u.writeChannel ch ((s.channel ch).stopped (d.advance r) k) =
        u.setChannel ch ((s.channel ch).stopped (d.advance r) k) :=
    writeChannel_of_not_ready (record ▸ busy) (Channel.eligible_eq_false rfl rfl)
  rw [State.stopUnit, if_neg not_due]
  simp only [loaded, origin, returnLine_eq, Option.getD_some]
  rw [written (s.setWires { s.wires with returns := (s.channel ch).lineWords ch s.wires.returns }) rfl]
  rfl

theorem stopNotice_snd (ch : ChannelNo) (k : StopCause) (a b : Nat) (o : Origin) :
    (stopNotice ch k a b o).2 ≠ .ready := by
  unfold stopNotice
  split <;> simp

/-- A channel that goes IDLE or FAULTED takes no standing request of its line. -/
theorem enterNext_of_rest {next : AfterState} (busy : (s.channel ch).state ≠ .ready) (rest : next ≠ .ready)
    (line : ∀ n, (s.channel ch).mappedLine = some n → (s.line n).mapping = some ⟨ch, p⟩) :
    s.enterNext ch next = s.setChannel ch ((s.channel ch).settled next) := by
  have settled : ((s.channel ch).settled next).eligible = false := by
    cases next with
    | ready => exact absurd rfl rest
    | idle => exact Channel.eligible_of_not_ready (by simp [Channel.settled])
    | faulted => exact Channel.eligible_of_not_ready (by simp [Channel.settled])
  have state : ((s.channel ch).settled next).state ∉ [ChannelState.ready, .running, .posting] := by
    cases next with
    | ready => exact absurd rfl rest
    | idle => simp [Channel.settled]
    | faulted => simp [Channel.settled]
  have mappedLine : ((s.channel ch).settled next).mappedLine = (s.channel ch).mappedLine := by
    cases next <;> rfl
  have record : (s.setChannel ch ((s.channel ch).settled next)).channel ch = (s.channel ch).settled next :=
    Table.row_put_self _ _ _
  rw [State.enterNext, writeChannel_of_not_ready busy settled]
  cases mapped : (s.channel ch).mappedLine with
  | none => exact channelAble_of_unmapped (by rw [record, mappedLine, mapped])
  | some n =>
    rw [channelAble_of_mapped (n := n) (by rw [record, mappedLine, mapped])]
    exact takeTrigger_of_unable (.inr (.inr ⟨⟨ch, p⟩, line n mapped, by rw [record]; exact state⟩))

theorem owns_eq_false (unowned : ∀ x, (s.channel x).owner ≠ some p) : s.owns p = false := by
  simp [State.owns, unowned]

theorem reportChannels_of_all_gone (clearing : s.tableClearing.get p = true)
    (unowned : ∀ x, (s.channel x).owner ≠ some p) :
    s.reportChannels p = (s.setTableClearing p false).sendField p .channels := by
  simp [State.reportChannels, clearing, owns_eq_false unowned]

end Sys2Proof.Machine

open Sys2Proof Sys2Proof.Machine

/-- Settles O48: the fault message, the report at a STOPPING channel, and the unit end by its notice. -/
theorem unitEndReportsAreTaken : Obligations.UnitEndReportsAreTaken := by
  intro s ch before after b reports first u c
  have report := takeReport_of_first reports first
  refine ⟨fun body => ?_, fun r o body stopping => ?_, fun r o d p body running loaded owner => ?_⟩
  · subst body
    exact exec_faultMessage report
  · subst body
    rw [exec_unitEndReport_of_stopping report stopping]
    exact (exec_stopReport (takeReport_of_first (s := { s with
      wires := { s.wires with reports := before ++ ⟨ch, .stop r .abort⟩ :: after } }) rfl first) stopping).symm
  · subst body
    intro left base notice fires v entered q
    have offered : unitNotice ch d.program.policy left r.done c.credit o = notice := by
      simp only [notice, unitNotice]
      by_cases done : left = 0
      · simp only [if_pos done]
        cases d.program.policy <;> rfl
      · simp only [if_neg done]
        cases d.program.policy <;> rfl
    have runs : exec (.unitEndReport ch) s =
        .next ((u.unitWritten ch p d r).concludeUnit ch notice (if left = 0 then .idle else .ready)) := by
      rw [exec_unitEndReport_of_running report running, ← offered]
      exact congrArg Host.Outcome.next (unitEnd_eq (s := u) running loaded owner r o)
    have record : (u.unitWritten ch p d r).channel ch = { c with loaded := some (d.advance r) } :=
      Table.row_put_self _ _ _
    have owned : ((u.unitWritten ch p d r).channel ch).owner = some p := by
      rw [record]
      exact owner
    have settled : ({ c with loaded := some (d.advance r) } : Channel).settled (if left = 0 then .idle else .ready) =
        if left = 0 then { base with state := .idle, credit := 0, linePending := false }
        else { base with state := .ready } := by
      split <;> rfl
    have entersIn (x : State) (same : x.channels = (u.unitWritten ch p d r).channels) :
        x.enterNext ch (if left = 0 then .idle else .ready) =
          (x.writeChannel ch
            (if left = 0 then { base with state := .idle, credit := 0, linePending := false }
            else { base with state := .ready })).channelAble ch := by
      rw [enterNext_of_record ((channel_of_same same ch).trans record), settled]
    refine ⟨fun silent => ?_, fun n offer online => ⟨fun room => ?_, fun full => ?_⟩⟩
    · rw [runs, concludeUnit_of_silent owned silent, entersIn _ rfl]
      rfl
    · rw [runs, offer, concludeUnit_of_room owned online room]
      exact congrArg Host.Outcome.next (entersIn ((u.unitWritten ch p d r).setNoticeUnit p _) rfl)
    · rw [runs, offer, concludeUnit_of_full owned online full, park_of_not_ready (by rw [record, running]; simp),
        record]
      refine congrArg (fun x => Host.Outcome.next (State.channelAble x ch)) ?_
      exact setChannel_setChannel
        ({ v with notices := s.notices.set p { q with parking := q.parking ++ [⟨ch, n⟩] } } : State) ch
        { c with loaded := some (d.advance r) } _

/-- Settles O49: the teardown's stop, and the stop with its notice. -/
theorem stopReportsAreTaken : Obligations.StopReportsAreTaken := by
  intro s ch before after r k p d o reports first u c stopping owner loaded origin line
  have runs : exec (.stopReport ch) s = .next (u.stopUnit ch r k) :=
    exec_stopReport (takeReport_of_first reports first) stopping
  refine ⟨fun torn => ?_, fun other kept => ?_⟩
  · have frees := runs.trans (congrArg Host.Outcome.next (stopUnit_of_teardown (s := u) (r := r) owner torn))
    refine ⟨frees, fun t ran => ?_⟩
    rw [frees] at ran
    cases ran
    have channels (x : ChannelNo) : ((u.freeChannel ch).reportChannels p).channel x = (u.freeChannel ch).channel x :=
      channel_of_same (by simp) x
    refine ⟨by rw [channels, freeChannel_channel_self]; rfl, fun ⟨clearing, gone⟩ => ?_⟩
    rw [reportChannels_of_all_gone]
    · have wires : (u.freeChannel ch).wires.fields = s.wires.fields := by simp [u]
      change (((u.freeChannel ch).setTableClearing p false).sendField p .channels).wires.fields.get p = _
      rw [← wires]
      exact PerPort.get_set_self _ _ _
    · have same : (u.freeChannel ch).tableClearing = s.tableClearing := by simp [u]
      rw [same, clearing]
    · exact fun x => by rw [← channels]; exact gone x
  · intro left notice stopped v q
    have record : (u.stopWritten ch d r k).channel ch = c.stopped (d.advance r) k := Table.row_put_self _ _ _
    have owned : ((u.stopWritten ch d r k).channel ch).owner = some p := by
      rw [record]
      exact owner
    have busy : ((u.stopWritten ch d r k).channel ch).state ≠ .ready := by
      rw [record]
      exact fun ready => by cases stopping.symm.trans ready
    have line' (n : LineNo) (mapped : ((u.stopWritten ch d r k).channel ch).mappedLine = some n) :
        ((u.stopWritten ch d r k).line n).mapping = some ⟨ch, p⟩ := by
      rw [record] at mapped
      exact line n mapped
    have offered : (stopNotice ch k left r.done o).1 = notice := by cases k <;> rfl
    have concludes : exec (.stopReport ch) s =
        .next ((u.stopWritten ch d r k).concludeUnit ch (some (stopNotice ch k left r.done o).1)
          (stopNotice ch k left r.done o).2) := runs.trans (congrArg Host.Outcome.next
      (stopUnit_eq (s := u) (r := r) stopping owner loaded origin other kept))
    have settled : (c.stopped (d.advance r) k).settled (stopNotice ch k left r.done o).2 = stopped := by
      cases k <;> rfl
    have settledIn (x : State) (same : x.channels = (u.stopWritten ch d r k).channels)
        (lines : x.lines = (u.stopWritten ch d r k).lines) :
        x.enterNext ch (stopNotice ch k left r.done o).2 = x.setChannel ch stopped := by
      have record' : x.channel ch = c.stopped (d.advance r) k := (channel_of_same same ch).trans record
      rw [← settled, ← record']
      refine enterNext_of_rest (p := p) ?_ (stopNotice_snd _ _ _ _ _) fun n mapped => ?_
      · rw [channel_of_same same]
        exact busy
      · rw [channel_of_same same] at mapped
        rw [mapping_of_lines lines]
        exact line' n mapped
    have written (posts : PerPort NoticeUnit) (e : Channel) :
        ({ u.stopWritten ch d r k with notices := posts } : State).setChannel ch e =
          { v with channels := s.channels.put ch e, notices := posts } := by
      rw [show v = { u with wires := { u.wires with returns := c.lineWords ch s.wires.returns } } from
        congrArg (fun ws => ({ u with wires := { u.wires with returns := ws } } : State))
          (lineWords_of_origin origin).symm]
      exact congrArg (fun x => ({ u with
        wires := { u.wires with returns := c.lineWords ch s.wires.returns }
        channels := x, notices := posts } : State)) (Table.put_put _ _ _ _)
    refine ⟨fun quiet => ?_, fun online full => ?_⟩
    · by_cases online : s.online p = true
      · have room : (s.noticeUnit p).queue.length < 28 :=
          quiet.resolve_left fun offline => by rw [online] at offline; cases offline
        rw [concludes, concludeUnit_of_room owned online room, offered, if_pos online]
        exact congrArg Host.Outcome.next
          ((settledIn ((u.stopWritten ch d r k).setNoticeUnit p _) rfl rfl).trans (written _ _))
      · have offline : s.online p = false := Bool.eq_false_iff.2 online
        rw [concludes, concludeUnit_of_silent owned (.inr offline), settledIn _ rfl rfl, if_neg online]
        exact congrArg Host.Outcome.next (written s.notices _)
    · rw [concludes, concludeUnit_of_full owned online full, park_of_not_ready busy, record, offered]
      refine congrArg (fun x => Host.Outcome.next (State.channelAble x ch)) ((written _ _).trans ?_)
      cases k <;> rfl

end

section
/-! PROOFS. A teardown at the Channel Table and at the Trigger Unit: channel by channel and line by line,
each step on its own record alone (R26, R27, R48). -/

namespace Sys2Proof.Machine

variable {s t : State} {p : Port} {ch : ChannelNo}

/-! ### A fold that visits each record once -/

theorem foldl_reads {σ α γ : Type} [DecidableEq α] {P : σ → Prop} {f : σ → α → σ} {read : σ → α → γ}
    {g : α → γ → γ} (keeps : ∀ u x, P u → P (f u x))
    (reads : ∀ u x, P u → ∀ y, read (f u x) y = if x = y then g x (read u x) else read u y) :
    ∀ (xs : List α) (u : σ), xs.Nodup → P u →
      ∀ y, read (xs.foldl f u) y = if y ∈ xs then g y (read u y) else read u y := by
  intro xs
  induction xs with
  | nil => exact fun u _ _ y => by simp
  | cons x xs ih =>
    intro u once holds y
    obtain ⟨fresh, once⟩ := List.nodup_cons.1 once
    rw [List.foldl_cons, ih _ once (keeps u x holds) y, reads u x holds y]
    by_cases here : x = y
    · subst here
      simp [fresh]
    · simp [here, Ne.symm here]

theorem foldl_finRange_reads {σ γ : Type} {n : Nat} {P : σ → Prop} {f : σ → Fin n → σ}
    {read : σ → Fin n → γ} {g : Fin n → γ → γ} (keeps : ∀ u x, P u → P (f u x))
    (reads : ∀ u x, P u → ∀ y, read (f u x) y = if x = y then g x (read u x) else read u y)
    {u : σ} (holds : P u) (y : Fin n) : read ((List.finRange n).foldl f u) y = g y (read u y) := by
  rw [foldl_reads keeps reads _ u (List.nodup_finRange n) holds, if_pos (List.mem_finRange y)]

/-! ### Freeing a channel (R5) -/

theorem unmap_channel {l : LineNo} {m : Mapping} (mapped : (s.line l).mapping = some m) (x : ChannelNo) :
    (s.unmap l).channel x =
      if m.channel = x then { s.channel x with mappedLine := none, linePending := false }
      else s.channel x := by
  obtain ⟨bare, -⟩ | ⟨n, named, unmaps⟩ := unmap_cases s l
  · simp [mapped] at bare
  · obtain rfl : m = n := Option.some.inj (mapped.symm.trans named)
    rw [unmaps, channel_writeChannel]
    split
    · next here => rw [← here]
    · rfl

theorem unmap_line (s : State) (l k : LineNo) :
    (s.unmap l).line k = if l = k then { s.line l with state := .unmapped, mapping := none } else s.line k := by
  rw [← line_setLine]
  refine line_of_same ?_ k
  obtain ⟨-, e⟩ | ⟨m, -, e⟩ := unmap_cases s l <;> simp [e]

/-- Of lines and channels that name each other, freeing a channel changes its own record alone. -/
theorem State.LinesSound.freeChannel_channel (h : s.LinesSound) (ch x : ChannelNo) :
    (s.freeChannel ch).channel x = if ch = x then .free else s.channel x := by
  rw [freeChannel_eq, channel_writeChannel, dropNotice_channel]
  refine if_ctx_congr .rfl (fun _ => rfl) fun other => ?_
  unfold State.dropLine
  split
  · next l named =>
    obtain ⟨m, mapped, rfl⟩ := h.toLine ch l named
    rw [unmap_channel mapped, if_neg other]
  · rfl

/-! ### One channel of a teardown (R26) -/

/-- A record after its port's teardown. -/
def Channel.tornDown (c : Channel) (p : Port) : Channel :=
  if c.owner = some p then
    if c.state ∈ [ChannelState.running, .stopping] then { c with state := .stopping } else .free
  else c

/-- A channel that its engine must stop first. -/
def Channel.underWay (c : Channel) (p : Port) : Prop :=
  c.owner = some p ∧ c.state ∈ [ChannelState.running, .stopping]

theorem tearDownChannel_of_foreign (foreign : (s.channel ch).owner ≠ some p) :
    s.tearDownChannel p ch = s := if_neg foreign

theorem tearDownChannel_of_underWay (busy : (s.channel ch).underWay p) :
    s.tearDownChannel p ch =
      (s.setChannel ch { s.channel ch with state := .stopping }).sendCause ⟨ch, .teardown⟩ := by
  obtain ⟨owner, busy⟩ := busy
  unfold State.tearDownChannel
  rw [if_pos owner]
  obtain running | stopping : (s.channel ch).state = .running ∨ (s.channel ch).state = .stopping := by
    simpa using busy
  · rw [running]
    exact congrArg (State.sendCause · _)
      (writeChannel_of_not_ready (by simp [running]) (Channel.eligible_of_not_ready nofun))
  · have same : ({ s.channel ch with state := .stopping } : Channel) = s.channel ch := by rw [← stopping]
    rw [same, stopping]
    simp [State.setChannel, State.channel]

theorem tearDownChannel_of_idle (owner : (s.channel ch).owner = some p)
    (idle : (s.channel ch).state ∉ [ChannelState.running, .stopping]) :
    s.tearDownChannel p ch = s.freeChannel ch := by
  unfold State.tearDownChannel
  rw [if_pos owner]
  cases state : (s.channel ch).state with
  | running | stopping => simp [state] at idle
  | _ => rfl

theorem tearDownChannel_cases (s : State) (p : Port) (ch : ChannelNo) :
    (s.channel ch).owner ≠ some p ∧ s.tearDownChannel p ch = s ∨
      (s.channel ch).underWay p ∧
        s.tearDownChannel p ch =
          (s.setChannel ch { s.channel ch with state := .stopping }).sendCause ⟨ch, .teardown⟩ ∨
      ((s.channel ch).owner = some p ∧ (s.channel ch).state ∉ [ChannelState.running, .stopping]) ∧
        s.tearDownChannel p ch = s.freeChannel ch := by
  by_cases owner : (s.channel ch).owner = some p
  · by_cases busy : (s.channel ch).state ∈ [ChannelState.running, .stopping]
    · exact .inr (.inl ⟨⟨owner, busy⟩, tearDownChannel_of_underWay ⟨owner, busy⟩⟩)
    · exact .inr (.inr ⟨⟨owner, busy⟩, tearDownChannel_of_idle owner busy⟩)
  · exact .inl ⟨owner, tearDownChannel_of_foreign owner⟩

theorem State.LinesSound.tearDownChannel (h : s.LinesSound) (p : Port) (ch : ChannelNo) :
    (s.tearDownChannel p ch).LinesSound := by
  obtain ⟨-, e⟩ | ⟨-, e⟩ | ⟨-, e⟩ := tearDownChannel_cases s p ch <;> rw [e]
  · exact h
  · exact linesSound_write (t := State.sendCause _ _) (ch := ch) h rfl rfl rfl (.inr rfl) id
  · exact h.freeChannel ch

/-- What a teardown leaves of the messages: all but the causes. -/
theorem tearDownChannel_wires (s : State) (p : Port) (ch : ChannelNo) :
    ∃ causes, (s.tearDownChannel p ch).wires = { s.wires with causes } := by
  obtain ⟨-, e⟩ | ⟨-, e⟩ | ⟨-, e⟩ := tearDownChannel_cases s p ch <;> rw [e]
  · exact ⟨_, rfl⟩
  · exact ⟨_, rfl⟩
  · exact ⟨_, by simp; rfl⟩

/-- A record with the word whether a teardown cause for its channel is on its way. -/
def State.causeView (s : State) (ch : ChannelNo) : Channel × Prop :=
  (s.channel ch, ⟨ch, .teardown⟩ ∈ s.wires.causes)

theorem State.LinesSound.tearDownChannel_view (h : s.LinesSound) (p : Port) (ch x : ChannelNo) :
    (s.tearDownChannel p ch).causeView x =
      if ch = x then ((s.channel ch).tornDown p, (s.causeView ch).2 ∨ (s.channel ch).underWay p)
      else s.causeView x := by
  obtain ⟨foreign, e⟩ | ⟨busy, e⟩ | ⟨⟨owner, idle⟩, e⟩ := tearDownChannel_cases s p ch <;>
    rw [e, State.causeView]
  · split
    · next here =>
      subst here
      simp [State.causeView, Channel.tornDown, Channel.underWay, foreign]
    · rfl
  · change (_ , ⟨x, _⟩ ∈ s.wires.causes ++ [_]) = _
    split
    · next here =>
      subst here
      have record : (s.channel ch).tornDown p = { s.channel ch with state := .stopping } :=
        (if_pos busy.1).trans (if_pos busy.2)
      rw [record]
      refine Prod.ext ((channel_setChannel _ _ _ _).trans (if_pos rfl)) ?_
      simp [busy]
    · next other =>
      refine Prod.ext ((channel_setChannel _ _ _ _).trans (if_neg other)) ?_
      simp [State.causeView, Ne.symm other]
  · rw [h.freeChannel_channel]
    have wires : (s.freeChannel ch).wires = s.wires := by simp
    rw [wires]
    split
    · next here =>
      subst here
      simp [State.causeView, Channel.tornDown, Channel.underWay, owner, idle]
    · rfl

/-! ### The whole table -/

/-- The teardown's taking at the Channel Table, before its channels. -/
def State.tableTeardown (s : State) (p : Port) : State :=
  (s.setDirections p { s.wires.directions.get p with channelTable := false }).setTableClearing p true

def State.tearDownTable (s : State) (p : Port) : State :=
  (List.finRange 64).foldl (fun u ch => u.tearDownChannel p ch) s

theorem execChannelTableTeardown_of_due (due : (s.wires.directions.get p).channelTable = true) :
    execChannelTableTeardown p s =
      .next (((s.tableTeardown p).tearDownTable p).reportChannels p) := if_pos due

theorem State.LinesSound.tearDownTable_view (h : s.LinesSound) (p : Port) (ch : ChannelNo) :
    (s.tearDownTable p).causeView ch =
      ((s.channel ch).tornDown p, (s.causeView ch).2 ∨ (s.channel ch).underWay p) :=
  foldl_finRange_reads (read := State.causeView)
    (g := fun _ c => (c.1.tornDown p, c.2 ∨ c.1.underWay p))
    (fun _ x hu => hu.tearDownChannel p x) (fun _ x hu y => hu.tearDownChannel_view p x y) h ch

theorem tearDownTable_keeps (s : State) (p : Port) :
    (s.tearDownTable p).tableClearing = s.tableClearing ∧
      ∃ causes, (s.tearDownTable p).wires = { s.wires with causes } := by
  refine foldl_keeps (P := fun u => u.tableClearing = s.tableClearing ∧
    ∃ causes, u.wires = { s.wires with causes }) (fun u ch kept => ?_) _ ⟨rfl, _, rfl⟩
  obtain ⟨clearing, causes, wires⟩ := kept
  obtain ⟨causes', wires'⟩ := tearDownChannel_wires u p ch
  exact ⟨by simp [clearing], causes', by rw [wires', wires]⟩

theorem reportChannels_of_owner (owner : (s.channel ch).owner = some p) : s.reportChannels p = s := by
  have owns : s.owns p = true := List.any_eq_true.2 ⟨ch, List.mem_finRange ch, by simp [owner]⟩
  simp [State.reportChannels, owns]

/-- The table torn down, every channel of the port visited, before the report. -/
structure State.TableTornDown (s : State) (p : Port) (t : State) : Prop where
  record : ∀ ch, t.channel ch = (s.channel ch).tornDown p
  cause : ∀ ch, (s.channel ch).underWay p → ⟨ch, .teardown⟩ ∈ t.wires.causes
  clearing : t.tableClearing.get p = true
  direction : (t.wires.directions.get p).channelTable = false
  fields : t.wires.fields = s.wires.fields

theorem State.LinesSound.tableTornDown (h : s.LinesSound) (p : Port) :
    s.TableTornDown p ((s.tableTeardown p).tearDownTable p) := by
  have begun : (s.tableTeardown p).LinesSound := h.of_same rfl rfl
  have view := begun.tearDownTable_view p
  obtain ⟨clearing, causes, wires⟩ := tearDownTable_keeps (s.tableTeardown p) p
  generalize (s.tableTeardown p).tearDownTable p = t at view clearing wires
  refine ⟨fun ch => congrArg Prod.fst (view ch),
    fun ch busy => (congrArg Prod.snd (view ch)).mpr (.inr busy), ?_, ?_, ?_⟩
  · rw [clearing]
    exact PerPort.get_set_self ..
  · rw [wires]
    exact congrArg Directions.channelTable (PerPort.get_set_self ..)
  · rw [wires]
    rfl

theorem Channel.tornDown_of_foreign {c : Channel} (foreign : c.owner ≠ some p) : c.tornDown p = c :=
  if_neg foreign

theorem Channel.tornDown_of_owner {c : Channel} (owner : c.owner = some p) :
    c.tornDown p =
      if c.state ∈ [ChannelState.running, .stopping] then { c with state := .stopping } else .free :=
  if_pos owner

/-- The report after the visit: held back while a channel is owned, else sent (R27). -/
theorem State.TableTornDown.reportChannels (h : s.TableTornDown p t) :
    ((∃ ch, (t.channel ch).owner = some p) ∧ t.reportChannels p = t) ∨
      (∀ ch, (t.channel ch).owner ≠ some p) ∧
        t.reportChannels p = (t.setTableClearing p false).sendField p .channels := by
  by_cases owned : ∃ ch, (t.channel ch).owner = some p
  · obtain ⟨ch, owner⟩ := owned
    exact .inl ⟨⟨ch, owner⟩, reportChannels_of_owner owner⟩
  · have none_left := not_exists.1 owned
    exact .inr ⟨none_left, reportChannels_of_all_gone h.clearing none_left⟩

/-! ### The Trigger Unit's lines (R48) -/

/-- A line after the teardown of a port. -/
def Line.tornDown (x : Line) (p : Port) : Line :=
  if ∃ ch, x.mapping = some ⟨ch, p⟩ then { x with state := .unmapped, mapping := none } else x

theorem Line.tornDown_of_mapped {x : Line} (mapped : x.mapping = some ⟨ch, p⟩) :
    x.tornDown p = { x with state := .unmapped, mapping := none } := if_pos ⟨ch, mapped⟩

theorem Line.tornDown_of_foreign {x : Line} (foreign : ∀ ch, x.mapping ≠ some ⟨ch, p⟩) :
    x.tornDown p = x := if_neg (not_exists.2 foreign)

theorem unmapOf_cases (s : State) (p : Port) (l : LineNo) :
    (∃ ch, (s.line l).mapping = some ⟨ch, p⟩ ∧ s.unmapOf p l = s.unmap l) ∨
      (∀ ch, (s.line l).mapping ≠ some ⟨ch, p⟩) ∧ s.unmapOf p l = s := by
  unfold State.unmapOf
  split
  · next m mapped =>
    split
    · next mine =>
      subst mine
      exact .inl ⟨m.channel, mapped, rfl⟩
    · next foreign =>
      refine .inr ⟨fun ch same => foreign ?_, rfl⟩
      rw [Option.some.inj (mapped.symm.trans same)]
  · next bare => exact .inr ⟨fun ch => by simp [bare], rfl⟩

theorem unmapOf_line (s : State) (p : Port) (l k : LineNo) :
    (s.unmapOf p l).line k = if l = k then (s.line l).tornDown p else s.line k := by
  obtain ⟨ch, mapped, e⟩ | ⟨foreign, e⟩ := unmapOf_cases s p l <;> rw [e]
  · rw [unmap_line]
    rw [Line.tornDown_of_mapped mapped]
  · split
    · next here =>
      subst here
      exact (Line.tornDown_of_foreign foreign).symm
    · rfl

/-- A record whose line is unmapped. -/
def Channel.lineless (c : Channel) : Channel := { c with mappedLine := none, linePending := false }

/-- A teardown of `p` under way from `s`: a line of `p` may be unmapped, and its channel is then without
it. -/
structure State.UnmapsFrom (s : State) (p : Port) (t : State) : Prop where
  line : ∀ n, t.line n = s.line n ∨ (t.line n).mapping = none
  with_line : ∀ ch, (∀ n, (s.line n).mapping = some ⟨ch, p⟩ → (t.line n).mapping ≠ none) →
    t.channel ch = s.channel ch
  without : ∀ ch n, (s.line n).mapping = some ⟨ch, p⟩ → (t.line n).mapping = none →
    t.channel ch = (s.channel ch).lineless

theorem State.UnmapsFrom.unmapOf (h : s.UnmapsFrom p t) (sound : s.LinesSound) (l : LineNo) :
    s.UnmapsFrom p (t.unmapOf p l) := by
  obtain ⟨ch, mapped, e⟩ | ⟨-, e⟩ := unmapOf_cases t p l <;> rw [e]
  · have was : (s.line l).mapping = some ⟨ch, p⟩ := by
      obtain same | bare := h.line l
      · rw [← same, mapped]
      · rw [bare] at mapped; cases mapped
    have gone : ((t.unmap l).line l).mapping = none := by rw [unmap_line, if_pos rfl]
    have other {n : LineNo} (ne : l ≠ n) : (t.unmap l).line n = t.line n := by rw [unmap_line, if_neg ne]
    have only {x : ChannelNo} {n : LineNo} (named : (s.line n).mapping = some ⟨x, p⟩) (ne : l ≠ n) :
        ch ≠ x := fun same => by
      subst same
      exact ne (Option.some.inj ((sound.toChannel l _ was).1.symm.trans (sound.toChannel n _ named).1))
    refine ⟨fun n => ?_, fun x held => ?_, fun x n named bare => ?_⟩
    · by_cases here : l = n
      · exact .inr (here ▸ gone)
      · rw [other here]
        exact h.line n
    · have away : ch ≠ x := fun same => held l (same ▸ was) gone
      rw [unmap_channel mapped, if_neg away]
      refine h.with_line x fun n named => ?_
      have ne : l ≠ n := fun same => away (by
        subst same
        exact congrArg Mapping.channel (Option.some.inj (was.symm.trans named)))
      rw [← other ne]
      exact held n named
    · by_cases here : l = n
      · subst here
        obtain rfl : ch = x := congrArg Mapping.channel (Option.some.inj (was.symm.trans named))
        rw [unmap_channel mapped, if_pos rfl]
        refine congrArg Channel.lineless (h.with_line ch fun n named' => ?_)
        by_cases same : l = n
        · rw [← same, mapped]
          nofun
        · exact absurd rfl (only named' same)
      · rw [unmap_channel mapped, if_neg (only named here)]
        exact h.without x n named (by rw [← other here]; exact bare)
  · exact h

def State.unmapAllOf (s : State) (p : Port) : State :=
  (List.finRange 16).foldl (fun u l => u.unmapOf p l) s

/-- The teardown's taking at the Trigger Unit, before its lines. -/
def State.lineTeardown (s : State) (p : Port) : State :=
  s.setDirections p { s.wires.directions.get p with triggerUnit := false }

theorem execTriggerUnitTeardown_of_due (due : (s.wires.directions.get p).triggerUnit = true) :
    execTriggerUnitTeardown p s =
      .next ((((s.lineTeardown p).unmapAllOf p).dropFreed).sendField p .lines) := if_pos due

theorem unmapAllOf_line (s : State) (p : Port) (l : LineNo) :
    (s.unmapAllOf p).line l = (s.line l).tornDown p :=
  foldl_finRange_reads (P := fun _ => True) (read := State.line) (g := fun _ x => x.tornDown p)
    (fun _ _ _ => trivial) (fun u k _ y => unmapOf_line u p k y) trivial l

theorem unmapAllOf_wires (s : State) (p : Port) : (s.unmapAllOf p).wires = s.wires :=
  foldl_keeps (P := fun u => u.wires = s.wires) (fun u l same => by simp [same]) _ rfl

theorem State.LinesSound.unmapAllOf (h : s.LinesSound) (p : Port) : s.UnmapsFrom p (s.unmapAllOf p) :=
  foldl_keeps (P := s.UnmapsFrom p) (fun _ l unmaps => unmaps.unmapOf h l) _
    ⟨fun _ => .inl rfl, fun _ _ => rfl, fun _ n named bare => by rw [named] at bare; cases bare⟩

theorem dropFreed_queue (s : State) (k : SchedClass) :
    s.dropFreed.trigger.queue k = (s.trigger.queue k).filter fun ch => !((s.channel ch).state = .free) :=
  TriggerUnit.queue_keep ..

end Sys2Proof.Machine

open Sys2Proof Sys2Proof.Machine

/-- Settles O58: each channel and each line of the port is visited once, and its step changes no other
record. -/
theorem teardownTakesChannelsAndLines : Obligations.TeardownTakesChannelsAndLines := by
  refine ⟨fun s p due sound => ?_, fun s p due sound => ?_⟩
  · have torn := sound.tableTornDown p
    refine ⟨_, execChannelTableTeardown_of_due due, ?_⟩
    generalize (s.tableTeardown p).tearDownTable p = t at torn
    have owned (ch : ChannelNo) (owner : (s.channel ch).owner = some p) :
        if (s.channel ch).state ∈ [ChannelState.running, .stopping] then
          t.channel ch = { s.channel ch with state := .stopping } ∧ ⟨ch, .teardown⟩ ∈ t.wires.causes
        else t.channel ch = .free := by
      rw [torn.record, Channel.tornDown_of_owner owner]
      split
      · next busy => exact ⟨rfl, torn.cause ch ⟨owner, busy⟩⟩
      · rfl
    have foreign (ch : ChannelNo) (foreign : (s.channel ch).owner ≠ some p) : t.channel ch = s.channel ch := by
      rw [torn.record, Channel.tornDown_of_foreign foreign]
    obtain ⟨⟨ch, owner⟩, report⟩ | ⟨gone, report⟩ := torn.reportChannels <;> rw [report]
    · exact ⟨torn.direction, owned, foreign, fun _ => ⟨torn.clearing, torn.fields⟩,
        fun gone => absurd owner (gone ch)⟩
    · refine ⟨torn.direction, owned, foreign, fun ⟨ch, owner⟩ => absurd owner (gone ch), fun _ => ⟨?_, ?_⟩⟩
      · exact PerPort.get_set_self ..
      · rw [← torn.fields]
        rfl
  · have line := unmapAllOf_line (s.lineTeardown p) p
    have wires := unmapAllOf_wires (s.lineTeardown p) p
    have unmaps := State.LinesSound.unmapAllOf (s := s.lineTeardown p) (sound.of_same rfl rfl) p
    refine ⟨_, execTriggerUnitTeardown_of_due due, ?_⟩
    generalize (s.lineTeardown p).unmapAllOf p = u at line wires unmaps
    have mapped (n : LineNo) (mapped : ∃ ch, (s.line n).mapping = some ⟨ch, p⟩) :
        u.line n = { s.line n with state := .unmapped, mapping := none } := by
      obtain ⟨ch, mapped⟩ := mapped
      exact (line n).trans (Line.tornDown_of_mapped mapped)
    have foreign (n : LineNo) (foreign : ∀ ch, (s.line n).mapping ≠ some ⟨ch, p⟩) : u.line n = s.line n :=
      (line n).trans (Line.tornDown_of_foreign foreign)
    refine ⟨?_, ?_, fun n mine => ?_, foreign, fun k ch stands => ?_, fun ch => ?_⟩
    · change (u.wires.directions.get p).triggerUnit = false
      rw [wires]
      exact congrArg Directions.triggerUnit (PerPort.get_set_self ..)
    · change u.wires.fields.set p (u.wires.fields.get p ++ [.lines]) = _
      rw [wires]
      rfl
    · change (u.line n).state = _ ∧ (u.line n).mapping = none
      rw [mapped n mine]
      exact ⟨rfl, rfl⟩
    · have kept : ch ∈ u.dropFreed.trigger.queue k := stands
      rw [dropFreed_queue, List.mem_filter] at kept
      change (u.channel ch).state ≠ .free
      simpa using kept.2
    · change u.channel ch = _
      split
      · next mine =>
        obtain ⟨n, named⟩ := mine
        exact unmaps.without ch n named (by rw [mapped n ⟨ch, named⟩])
      · next none_named => exact unmaps.with_line ch fun n named => absurd ⟨n, named⟩ none_named
end

section
/-! PROOFS. A teardown at the Aperture Unit and at the Notice Unit, and its reports at the Port Command Unit
(R104, R146, R154, R156). -/

namespace Sys2Proof.Machine

variable {s t : State} {p : Port}

/-! ### A fold that adds something at each record -/

theorem foldl_appends {σ α β γ : Type} {f : σ → α → σ} {read : σ → α → γ} {out : σ → List β}
    {add : α → γ → List β} (other : ∀ u x y, x ≠ y → read (f u x) y = read u y)
    (adds : ∀ u x, out (f u x) = out u ++ add x (read u x)) :
    ∀ (xs : List α) (u : σ), xs.Nodup →
      out (xs.foldl f u) = out u ++ xs.flatMap fun x => add x (read u x) := by
  intro xs
  induction xs with
  | nil => exact fun u _ => by simp
  | cons x xs ih =>
    intro u once
    obtain ⟨fresh, once⟩ := List.nodup_cons.1 once
    have same : xs.flatMap (fun y => add y (read (f u x) y)) = xs.flatMap fun y => add y (read u y) :=
      List.flatMap_congr fun y member => by rw [other u x y fun here => fresh (here ▸ member)]
    rw [List.foldl_cons, ih _ once, adds, same, List.flatMap_cons, List.append_assoc]

theorem flatMap_ite {α β : Type} (q : α → Prop) [DecidablePred q] (h : α → β) (xs : List α) :
    (xs.flatMap fun x => if q x then [h x] else []) = (xs.filter q).map h := by
  induction xs with
  | nil => rfl
  | cons x xs ih => by_cases holds : q x <;> simp [holds, ih]

/-! ### One record of a teardown (R104) -/

/-- A record after its domain's teardown has come to it. -/
def Aperture.withdrawn (x : Aperture) : Aperture :=
  { x with
    state := if x.state = .open then if x.users = 0 then .closed else .draining else x.state }

/-- An OPEN record that closes at once. -/
def Aperture.closes (x : Aperture) : Bool := x.state = .open ∧ x.users = 0

theorem Aperture.closes_iff {x : Aperture} : x.closes = true ↔ x.state = .open ∧ x.users = 0 :=
  decide_eq_true_iff

theorem Aperture.withdrawn_of_not_open {x : Aperture} (closed : x.state ≠ .open) : x.withdrawn = x := by
  rw [Aperture.withdrawn, if_neg closed]

/-- A record that the peer was granted. -/
def Aperture.granted (x : Aperture) : Bool :=
  match x.grant with
  | some g => g.grantees ≠ .self
  | none => false

theorem closingPostings_get (postings : PerPort (List SystemNotice)) (d : Domain) (i : ApertureNo)
    (x : Aperture) :
    (closingPostings postings d i x).get d = postings.get d ++ [.revokeDone d i x.generation] ∧
      (closingPostings postings d i x).get d.peer =
        postings.get d.peer ++ if x.granted then [.apertureWithdrawn d i x.generation] else [] := by
  unfold closingPostings Aperture.granted
  cases x.grant with
  | none => simp [PerPort.get_set, ne_peer d]
  | some g => by_cases own : g.grantees = .self <;> simp [own, PerPort.get_set, ne_peer d, (ne_peer d).symm]

/-- The records of a domain change one at a time. -/
theorem revokeIfOpen_aperture (s : State) (d : Domain) (i j : ApertureNo) :
    (s.revokeIfOpen d i).aperture d j = if i = j then (s.aperture d i).withdrawn else s.aperture d j := by
  unfold State.revokeIfOpen
  split
  · next isOpen =>
    rw [revoke_aperture, Aperture.withdrawn, if_pos isOpen]
    exact if_congr (and_iff_right rfl) rfl rfl
  · next other =>
    split
    · next here =>
      subst here
      rw [Aperture.withdrawn_of_not_open other]
    · rfl

theorem revokeIfOpen_cases (s : State) (d : Domain) (i : ApertureNo) :
    ((s.aperture d i).closes = true ∧
      (s.revokeIfOpen d i).wires =
        { s.wires with postings := closingPostings s.wires.postings d i (s.aperture d i) }) ∨
      (s.aperture d i).closes = false ∧ (s.revokeIfOpen d i).wires = s.wires := by
  unfold State.revokeIfOpen State.revoke
  by_cases isOpen : (s.aperture d i).state = .open
  · rw [if_pos isOpen]
    by_cases unused : (s.aperture d i).users = 0
    · refine .inl ⟨Aperture.closes_iff.2 ⟨isOpen, unused⟩, ?_⟩
      dsimp only
      rw [if_pos unused, closeAperture_eq]
      rfl
    · refine .inr ⟨by simp [Aperture.closes, unused], ?_⟩
      dsimp only
      rw [if_neg unused]
      rfl
  · exact .inr ⟨by simp [Aperture.closes, isOpen], by rw [if_neg isOpen]⟩

theorem revokeIfOpen_fields (s : State) (d : Domain) (i : ApertureNo) :
    (s.revokeIfOpen d i).wires.fields = s.wires.fields ∧
      (s.revokeIfOpen d i).wires.directions = s.wires.directions := by
  obtain ⟨-, wires⟩ | ⟨-, wires⟩ := revokeIfOpen_cases s d i <;> rw [wires] <;> exact ⟨rfl, rfl⟩

theorem revokeIfOpen_postings (s : State) (d : Domain) (i : ApertureNo) :
    (s.revokeIfOpen d i).wires.postings.get d =
        s.wires.postings.get d ++
          (if (s.aperture d i).closes then [.revokeDone d i (s.aperture d i).generation] else []) ∧
      (s.revokeIfOpen d i).wires.postings.get d.peer =
        s.wires.postings.get d.peer ++
          if (s.aperture d i).granted && (s.aperture d i).closes then
            [.apertureWithdrawn d i (s.aperture d i).generation]
          else [] := by
  obtain ⟨closes, wires⟩ | ⟨stays, wires⟩ := revokeIfOpen_cases s d i
  · rw [wires, closes, Bool.and_true]
    exact closingPostings_get ..
  · simp [wires, stays]

theorem setAperture_clearing (s : State) (d : Domain) (i : ApertureNo) (x : Aperture) :
    ((s.setAperture d i x).apertureUnit d).clearing = (s.apertureUnit d).clearing := by
  rw [State.setAperture, apertureUnit_setApertureUnit, if_pos rfl]

theorem revokeIfOpen_clearing (s : State) (d : Domain) (i : ApertureNo) :
    ((s.revokeIfOpen d i).apertureUnit d).clearing = (s.apertureUnit d).clearing := by
  unfold State.revokeIfOpen State.revoke
  dsimp only
  split
  · split
    · rw [closeAperture_eq, setAperture_clearing]
      rfl
    · rw [setAperture_clearing]
  · rfl

/-! ### The whole domain -/

/-- The domain torn down, every record visited, before the report. -/
structure State.DomainTornDown (s : State) (p : Port) (t : State) : Prop where
  record : ∀ i, t.aperture p i = (s.aperture p i).withdrawn
  clearing : (t.apertureUnit p).clearing = true
  direction : (t.wires.directions.get p).apertureUnit = false
  fields : t.wires.fields = s.wires.fields
  own : t.wires.postings.get p =
    s.wires.postings.get p ++
      ((List.finRange 8).filter fun i => (s.aperture p i).closes).map fun i =>
        .revokeDone p i (s.aperture p i).generation
  peer : t.wires.postings.get p.peer =
    s.wires.postings.get p.peer ++
      ((List.finRange 8).filter fun i => (s.aperture p i).granted && (s.aperture p i).closes).map fun i =>
        .apertureWithdrawn p i (s.aperture p i).generation

theorem domainTornDown (s : State) (p : Port) :
    s.DomainTornDown p ((List.finRange 8).foldl (fun v i => v.revokeIfOpen p i) (s.apertureTeardown p)) := by
  have begun (i : ApertureNo) : (s.apertureTeardown p).aperture p i = s.aperture p i :=
    aperture_setClearing _ p p true i
  have record := foldl_finRange_reads (P := fun _ => True) (f := fun v i => State.revokeIfOpen v p i)
    (read := fun u i => u.aperture p i) (g := fun _ x => x.withdrawn) (fun _ _ _ => trivial)
    (fun u x _ y => revokeIfOpen_aperture u p x y) (u := s.apertureTeardown p) trivial
  have other (u : State) (x y : ApertureNo) (apart : x ≠ y) :
      (u.revokeIfOpen p x).aperture p y = u.aperture p y := by rw [revokeIfOpen_aperture, if_neg apart]
  have own := foldl_appends (read := fun u i => u.aperture p i) (out := fun u => u.wires.postings.get p) other
    (add := fun i x => if x.closes then [.revokeDone p i x.generation] else [])
    (fun u x => (revokeIfOpen_postings u p x).1) _ (s.apertureTeardown p) (List.nodup_finRange 8)
  have peer := foldl_appends (read := fun u i => u.aperture p i)
    (out := fun u => u.wires.postings.get p.peer) other
    (add := fun i x => if x.granted && x.closes then [.apertureWithdrawn p i x.generation] else [])
    (fun u x => (revokeIfOpen_postings u p x).2) _ (s.apertureTeardown p) (List.nodup_finRange 8)
  have kept := foldl_keeps (f := fun v i => State.revokeIfOpen v p i)
    (P := fun u => (u.apertureUnit p).clearing = true ∧ u.wires.fields = s.wires.fields ∧
      u.wires.directions = (s.apertureTeardown p).wires.directions)
    (fun u i ⟨clearing, fields, directions⟩ =>
      ⟨(revokeIfOpen_clearing u p i).trans clearing, (revokeIfOpen_fields u p i).1.trans fields,
        (revokeIfOpen_fields u p i).2.trans directions⟩)
    (List.finRange 8) (s := s.apertureTeardown p)
    ⟨by rw [State.apertureTeardown, apertureUnit_setApertureUnit, if_pos rfl], rfl, rfl⟩
  obtain ⟨clearing, fields, directions⟩ := kept
  have postings : (s.apertureTeardown p).wires.postings = s.wires.postings := rfl
  simp only [begun, flatMap_ite, Bool.decide_eq_true, postings] at record own peer
  refine ⟨record, clearing, ?_, fields, own, peer⟩
  rw [directions]
  exact congrArg Directions.apertureUnit (PerPort.get_set_self ..)

/-- The report after the visit: held back while a record is not CLOSED, else sent (R104). -/
theorem State.DomainTornDown.reportApertures (h : s.DomainTornDown p t) :
    ((∃ i, (t.aperture p i).state ≠ .closed) ∧ t.reportApertures p = t) ∨
      (∀ i, (t.aperture p i).state = .closed) ∧
        t.reportApertures p =
          (t.setApertureUnit p { t.apertureUnit p with clearing := false }).sendField p .apertures := by
  by_cases used : ∃ i, (t.aperture p i).state ≠ .closed
  · exact .inl ⟨used, reportApertures_of_held (.inr used)⟩
  · have closed : ∀ i, (t.aperture p i).state = .closed := by simpa using used
    exact .inr ⟨closed, reportApertures_of_all_closed h.clearing closed⟩

/-! ### The four reports (R154, R156) -/

theorem Teardown.mark_eq (x : Teardown) (f : TeardownField) :
    x.mark f =
      ⟨x.cause, x.channels || f = .channels, x.apertures || f = .apertures, x.lines || f = .lines,
        x.notices || f = .notices⟩ := by
  cases f <;> simp [Teardown.mark]

theorem Teardown.complete_iff {x : Teardown} :
    x.complete = true ↔ x.channels ∧ x.apertures ∧ x.lines ∧ x.notices := by
  simp [Teardown.complete, and_assoc]

theorem execTeardownReport_of_first {f : TeardownField} {before after : List TeardownField}
    (held : s.wires.fields.get p = before ++ f :: after) (first : f ∉ before) :
    execTeardownReport p f s =
      .next ((s.setWires { s.wires with fields := s.wires.fields.set p (before ++ after) }).markField p f) := by
  have taken : takeFirst (fun x => decide (x = f)) (before ++ f :: after) = some (f, before ++ after) :=
    takeFirst_append (fun y member => decide_eq_false fun here => first (here ▸ member)) (by simp)
  rw [execTeardownReport, held, taken]

theorem markField_of_not_clearing (other : ∀ x, (s.port p).session ≠ .clearing x) (f : TeardownField) :
    s.markField p f = s := by
  unfold State.markField
  split
  · next x clearing => exact absurd clearing (other x)
  · rfl

theorem markField_of_clearing {x : Teardown} (clearing : (s.port p).session = .clearing x)
    (f : TeardownField) :
    s.markField p f =
      s.setSession p
        (if (x.mark f).channels ∧ (x.mark f).apertures ∧ (x.mark f).lines ∧ (x.mark f).notices then .offline
        else .clearing (x.mark f)) := by
  unfold State.markField
  rw [clearing]
  dsimp only
  rw [apply_ite (s.setSession p)]
  exact if_congr Teardown.complete_iff rfl rfl

end Sys2Proof.Machine

open Sys2Proof Sys2Proof.Machine

/-- Settles O59: the records visited one after another, then the Notice Unit, then the report that is
marked. -/
theorem teardownEndsOffline : Obligations.TeardownEndsOffline := by
  refine ⟨fun s p due => ?_, fun s p due => ?_, fun s p f before after held first => ?_⟩
  · have torn := domainTornDown s p
    refine ⟨_, execApertureUnitTeardown_of_due due, ?_⟩
    generalize (List.finRange 8).foldl (fun v i => v.revokeIfOpen p i) (s.apertureTeardown p) = t at torn
    have peer : t.wires.postings.get p.peer =
        s.wires.postings.get p.peer ++
          (((List.finRange 8).filter fun i => (s.aperture p i).closes).filter fun i =>
            (s.aperture p i).granted).map fun i => .apertureWithdrawn p i (s.aperture p i).generation := by
      rw [List.filter_filter]
      exact torn.peer
    obtain ⟨⟨i, used⟩, report⟩ | ⟨closed, report⟩ := torn.reportApertures <;> rw [report]
    · refine ⟨torn.direction, torn.record, ?_, ⟨torn.own, peer⟩, fun _ => ⟨i, used⟩, fun _ => torn.clearing⟩
      rw [if_neg fun closed => used (closed i)]
      exact torn.fields
    · have record (i : ApertureNo) :
          ((t.setApertureUnit p { t.apertureUnit p with clearing := false }).sendField p .apertures).aperture p
            i = t.aperture p i := aperture_setClearing t p p false i
      simp only [record]
      refine ⟨torn.direction, torn.record, ?_, ⟨torn.own, peer⟩, fun on => ?_, fun ⟨i, used⟩ => absurd (closed i) used⟩
      · rw [if_pos closed, ← torn.fields]
        rfl
      · have off : ((t.setApertureUnit p { t.apertureUnit p with clearing := false }).apertureUnit p).clearing =
            false := by rw [apertureUnit_setApertureUnit, if_pos rfl]
        exact absurd on (Bool.eq_false_iff.1 off)
  · change execNoticeUnitClear p s = _
    rw [execNoticeUnitClear, if_pos due]
    rfl
  · intro u
    refine ⟨fun other => ?_, fun x clearing => ?_⟩
    · refine (execTeardownReport_of_first held first).trans (congrArg Host.Outcome.next ?_)
      exact markField_of_not_clearing (s := u) other f
    · intro m
      refine (execTeardownReport_of_first held first).trans (congrArg Host.Outcome.next ?_)
      refine (markField_of_clearing (s := u) clearing f).trans ?_
      rw [Teardown.mark_eq]
      rfl
end
